-- ==== Sys2Proof/Word.lean ====
section
/-! DEFINITION. The plain types every other file speaks in: bytes of a control port message, link and route
numbers, traffic classes, the three ports, and the two containers (one value per class, a sparse table). -/

namespace Sys2Proof

/-- One byte of a control port message (R160). -/
abbrev Byte := BitVec 8

/-- A set of links as R160 lays it out: one byte, bit `k` for link `Lk`. -/
abbrev LinkMask := BitVec 8

/-- A shore link, L0 to L5. -/
abbrev LinkId := Fin 6

/-- A route, named by its group number, 0 to 7. -/
abbrev RouteId := Fin 8

/-- The four traffic classes, in the fixed class order, highest first (00 section 1.6). -/
inductive TrafficClass where
  | c0 | c1 | c2 | c3
deriving DecidableEq, Repr

/-- The three control ports (00 section 1.3). -/
inductive Port where
  | rp | lp | pp
deriving DecidableEq, Repr

/-- One value for each traffic class. -/
structure PerClass (α : Type) where
  c0 : α
  c1 : α
  c2 : α
  c3 : α
deriving DecidableEq, Repr

/-- The value a class has. -/
def PerClass.get {α : Type} (p : PerClass α) : TrafficClass → α
  | .c0 => p.c0
  | .c1 => p.c1
  | .c2 => p.c2
  | .c3 => p.c3

/-- The same values but for one class. -/
def PerClass.set {α : Type} (p : PerClass α) (c : TrafficClass) (v : α) : PerClass α :=
  match c with
  | .c0 => { p with c0 := v }
  | .c1 => { p with c1 := v }
  | .c2 => { p with c2 := v }
  | .c3 => { p with c3 := v }

/-- The same value for every class. -/
def PerClass.all {α : Type} (v : α) : PerClass α := ⟨v, v, v, v⟩

/-- One value for each control port. -/
structure PerPort (α : Type) where
  rp : α
  lp : α
  pp : α
deriving DecidableEq, Repr

/-- The value a port has. -/
def PerPort.get {α : Type} (p : PerPort α) : Port → α
  | .rp => p.rp
  | .lp => p.lp
  | .pp => p.pp

/-- The same values but for one port. -/
def PerPort.set {α : Type} (p : PerPort α) (q : Port) (v : α) : PerPort α :=
  match q with
  | .rp => { p with rp := v }
  | .lp => { p with lp := v }
  | .pp => { p with pp := v }

/-- A sparse table: the entries that are present, in rising order of key. A key that is not listed has no entry. -/
structure Table (α : Type) where
  entries : List (Nat × α)
deriving DecidableEq, Repr

/-- The table with no entry. -/
def Table.empty {α : Type} : Table α := ⟨[]⟩

end Sys2Proof
end

