-- ==== Sys2Proof/Syntax.lean ====
section
/-! DEFINITION. The commands of the block: one constructor for each row of spec/opcode_table.json. -/

namespace Sys2Proof

/-- A control port message (08 section 9.7.1): the header's bytes, and the body's bytes, whose number is the header's
body length. In a request the response code, status and port bytes are ignored. -/
structure Message where
  /-- 1 REQUEST, 2 RESPONSE, 3 NOTICE. -/
  mtype : Byte
  /-- The request code (R152), or the notice kind's code (section 9.7.2). -/
  code : Byte
  /-- Chosen by the controller and echoed in the response; 0 in notices. -/
  tag : Byte
  /-- The response code (R151); 0 in notices. -/
  response : Byte
  /-- Bit 0: the service is SERVING; bit 1: the voyage clock is unset. -/
  status : Byte
  /-- 0 RP, 1 LP, 2 PP. -/
  port : Byte
  body : List Byte
deriving DecidableEq, Repr

/-- The commands. A request command carries the port on which the request is taken; its operands are the fields of the
request message at the head of that port's inbound queue (R149, R160). The other commands carry their own operands. -/
inductive Instr where
  /-- FULL_RESET (R157): power-on or an assertion of the reset line. -/
  | fullReset
  /-- REQUEST_RECEIVED (R148): a request message's last body byte arrives on a port. -/
  | requestReceived (p : Port) (m : Message)
  /-- INVALID_REQUEST (R149 step 1): a request whose type or code names no request is taken. -/
  | invalidRequest (p : Port)
  /-- MESSAGE_SENT (R150): the last byte of the message at the head of a port's outbound queue is transmitted. -/
  | messageSent (p : Port)
  /-- SYNC_LOST (R147): a port's line receiver loses synchronisation. -/
  | syncLost (p : Port)
  /-- SYNC_REGAINED (R147): a port's line receiver regains synchronisation. -/
  | syncRegained (p : Port)
  /-- ATTACH (R70 to R72). -/
  | attach (p : Port)
  /-- DETACH (R75). -/
  | detach (p : Port)
  /-- BEARER_ADD (R73). -/
  | bearerAdd (p : Port)
  /-- BEARER_DROP (R74). -/
  | bearerDrop (p : Port)
  /-- RESUME (R87). -/
  | resume (p : Port)
  /-- LINK_SETUP (R19, R20). -/
  | linkSetup (p : Port)
  /-- LINK_TUNE (R21). -/
  | linkTune (p : Port)
  /-- LINK_POWER carrying ON (R22). -/
  | linkPowerOn (p : Port)
  /-- LINK_POWER carrying OFF (R23, R24). -/
  | linkPowerOff (p : Port)
  /-- LINK_STATUS carrying UP (R28, R29). -/
  | linkStatusUp (p : Port)
  /-- LINK_STATUS carrying DOWN (R29). -/
  | linkStatusDown (p : Port)
  /-- LINK_REPORT (R33). -/
  | linkReport (p : Port)
  /-- POSITION (R8 to R13). -/
  | position (p : Port)
  /-- ZONE_LOAD (R2 to R6). -/
  | zoneLoad (p : Port)
  /-- SWAP_ROUTE without FORCE (R55, R56). -/
  | swapRoute (p : Port)
  /-- SWAP_ROUTE with FORCE (R55, R57). -/
  | swapRouteForce (p : Port)
  /-- STORE_SETUP (R91). -/
  | storeSetup (p : Port)
  /-- CLOCK_SET (R156). -/
  | clockSet (p : Port)
  /-- START (R154). -/
  | start (p : Port)
  /-- TARIFF_LOAD (R130, R131). -/
  | tariffLoad (p : Port)
  /-- ROUTE_POLICY (R39, R40). -/
  | routePolicy (p : Port)
  /-- ACCOUNT_OPEN (R133). -/
  | accountOpen (p : Port)
  /-- ACCOUNT_CLOSE (R134). -/
  | accountClose (p : Port)
  /-- ACCOUNT_CREDIT (R138). -/
  | accountCredit (p : Port)
  /-- ACCOUNT_SET (R139). -/
  | accountSet (p : Port)
  /-- SESSION_BAR (R81). -/
  | sessionBar (p : Port)
  /-- SESSION_UNBAR (R81). -/
  | sessionUnbar (p : Port)
  /-- RECORD_TAKE (R142). -/
  | recordTake (p : Port)
  /-- METER_SETUP (R114). -/
  | meterSetup (p : Port)
  /-- SESSION_READ (R89). -/
  | sessionRead (p : Port)
  /-- ACCOUNT_READ (R140). -/
  | accountRead (p : Port)
  /-- ROUTE_READ (R65). -/
  | routeRead (p : Port)
  /-- LINK_READ (R37). -/
  | linkRead (p : Port)
  /-- ZONE_READ (R17). -/
  | zoneRead (p : Port)
  /-- SET_LEVEL (R165). -/
  | setLevel (p : Port)
  /-- NOTICE_SETUP (R164). -/
  | noticeSetup (p : Port)
  /-- COUNTERS_READ (R170). -/
  | countersRead (p : Port)
  /-- PORT_RESET (R158). -/
  | portReset (p : Port)
  /-- CARRIER_LOSS (R27): a link's carrier indication changes to absent. -/
  | carrierLoss (k : LinkId)
  /-- CARRIER_REGAIN (R28): a link's carrier indication changes to present. -/
  | carrierRegain (k : LinkId)
  /-- WARM_UP_DEADLINE (R26) of a link. -/
  | warmUpDeadline (k : LinkId)
  /-- LINGER_DEADLINE (R32) of a link. -/
  | lingerDeadline (k : LinkId)
  /-- STALE_EXPIRY (R14). -/
  | staleExpiry
  /-- DRAIN_DEADLINE (R49) of a route. -/
  | drainDeadline (r : RouteId)
  /-- PROBATION_DEADLINE (R48) of a route. -/
  | probationDeadline (r : RouteId)
  /-- SETTLE_DEADLINE (R61) of a route. -/
  | settleDeadline (r : RouteId)
  /-- PARK_DEADLINE (R88) of a session. -/
  | parkDeadline (h : Fin 512)
  /-- INTERVAL_DEADLINE (R124) of the context in a slot. -/
  | intervalDeadline (i : Fin 64)
  /-- PACING_DEADLINE (R167) of a port. -/
  | pacingDeadline (p : Port)
  /-- VOYAGE_CLOCK_TICK (R156). -/
  | voyageClockTick
  /-- UPLINK_FRAME (R97): a frame arrives on the CFI. -/
  | uplinkFrame (tag : Nat) (source : BitVec 32) (length : Nat)
  /-- DOWNLINK_FRAME (R99): a frame arrives on a shore link. -/
  | downlinkFrame (k : LinkId) (destination : BitVec 32) (c : TrafficClass) (length : Nat)
  /-- TRANSMIT_OPPORTUNITY (R101) on a link. -/
  | transmitOpportunity (k : LinkId)
  /-- DELIVERY_OPPORTUNITY (R104) on the CFI. -/
  | deliveryOpportunity
  /-- NOTICE_CHOICE (R166) of a port's notice arbiter. -/
  | noticeChoice (p : Port)
deriving DecidableEq, Repr

end Sys2Proof
end

