-- ==== Sys2Proof/Decode.lean ====
section
/-! DEFINITION. The command a word spells. No row of spec/opcode_table.json gives bits ("fields": []), so no word spells
a command. -/

namespace Sys2Proof

/-- The command spelt by a word of `nbits` bits: none, for every word, since no row of the table gives bits
(DESIGN CHOICE, log entry 1). -/
def decodeTableWord (_nbits _w : Nat) : Option Instr := none

end Sys2Proof
end

