-- ==== Sys2Proof/Config.lean ====
section
/-! DEFINITION. What is fixed for the part, with the rule that fixes it, and the values the manual leaves undefined. -/

namespace Sys2Proof.Config

/-- 512 session handles, 0..511 (04 section 5.1). -/
def sessionCount : Nat := 512
/-- 2,048 bearer tags, 0..2047 (04 section 5.2). -/
def tagCount : Nat := 2048
/-- 256 accounts, 0..255 (07 section 8.1). -/
def accountCount : Nat := 256
/-- 64 charging context slots (R112). -/
def slotCount : Nat := 64
/-- At most 16 segments in a zone table (R1). -/
def maxSegments : Nat := 16
/-- The frame store's 4,096 blocks (R91). -/
def storeBlocks : Nat := 4096
/-- A block is 256 bytes (R90). -/
def blockBytes : Nat := 256
/-- The shortest and the longest frame (R90). -/
def minFrame : Nat := 40
def maxFrame : Nat := 2048
/-- The charging record queue holds up to 256 records (R143). -/
def crqCapacity : Nat := 256
/-- A port's inbound queue holds at most 16 messages, its outbound queue at most 32 (R147). -/
def inboundCapacity : Nat := 16
def outboundCapacity : Nat := 32
/-- The longest body of a request (R149 step 3), in bytes. -/
def maxBody : Nat := 1024
/-- The body of a TARIFF_LOAD of 64 entries as R130 and R160 lay it out: a count byte and 64 entries of one
permission byte and four rates of four bytes. It is longer than `maxBody` (DESIGN CHOICE, log entry 4, unsafe). -/
def tariffBody : Nat := 1 + 64 * 17
/-- The quality a link starts a warm-up with (R25). -/
def qualitySeed : Nat := 512
/-- A charge unit is 1,048,576 units of residue (section 7.3.1). -/
def unitsPerCharge : Nat := 1048576
/-- The ceiling of a 32-bit money or byte counter (R119, R135, R136). -/
def ceiling32 : Nat := 4294967295
/-- The ceiling of an account's two 48-bit totals (R135, R142). -/
def ceiling48 : Nat := 281474976710655
/-- The largest prepaid balance, opening amount and low threshold (R133, R138, R139). -/
def maxBalance : Nat := 2147483647
/-- A session's park hold when ATTACH gives none (R70). -/
def defaultParkHold : Nat := 7200

/-- While no tariff table is loaded, "the permission and rates of every entry are undefined and no block reads
them" (R129). Should a state be looked at in which one is read all the same, the rate is a FREE VALUE of the zone,
group and class (log entry 8): nothing constrains it. -/
opaque undefinedRate : Nat → Nat → Nat → Nat

/-- The permission of an entry while no tariff table is loaded (R129), 0 ALLOW, 1 SIGNALLING_ONLY, 2 DENY: a FREE
VALUE of the zone and group (log entry 8). -/
opaque undefinedPermission : Nat → Nat → Fin 3

end Sys2Proof.Config
end

