-- ==== Sys2Proof/Machine/Records.lean ====
section
/-! DEFINITION. The records the part's tables hold, block by block in the order of the chapters, and the value of each
at full reset. -/

namespace Sys2Proof.Machine

/-- A voyage clock stamp: the seconds, and whether the clock had been set when the stamp was taken (R156). -/
structure Stamp where
  seconds : BitVec 32
  isSet : Bool
deriving DecidableEq, Repr

/-! ### Zone tracker (01) -/

/-- A segment of the zone table (01 section 2.1). It covers its start up to one less than the next segment's start. -/
structure Segment where
  start : Nat
  zone : Fin 8
  silent : Bool
  usable : LinkMask
  prefs : List LinkId
deriving DecidableEq, Repr

/-- What the tracker holds while it has a current segment: the segment's index, the last good distance and the last
good time (01 section 2.3). -/
structure Fix where
  segment : Nat
  distance : Nat
  time : Nat
deriving DecidableEq, Repr

/-- The tracker's state, with the fields that are present in it. -/
inductive Tracker where
  | unlocated
  | located (fix : Fix) (staleDeadline : Nat)
  | stale (fix : Fix)
deriving DecidableEq, Repr

/-- The direction of a confirmation run (R11). -/
inductive RunDirection where
  | up | down
deriving DecidableEq, Repr

/-- The zone tracker's state (01 section 2.3). `run` is absent exactly when the run count is 0. -/
structure Zone where
  table : List Segment
  tracker : Tracker
  run : Option (RunDirection × Nat)
  guardDistance : Nat
  confirmCount : Nat
  staleLimit : Nat
deriving DecidableEq, Repr

/-- R7. -/
def Zone.reset : Zone :=
  { table := [], tracker := .unlocated, run := none, guardDistance := 50, confirmCount := 3, staleLimit := 120 }

/-- Why a crossing was formed (01 section 2.6). -/
inductive CrossingCause where
  | firstFix | confirmed | reload
deriving DecidableEq, Repr

/-- A crossing as it is published (R15): its cause, the old segment's index and record as they stood, absent for FIRST_FIX,
and the new segment's index and record. -/
structure Crossing where
  cause : CrossingCause
  old : Option (Nat × Segment)
  new : Nat × Segment
deriving DecidableEq, Repr

/-- The meter's test of a crossing (R125): the tariff zones differ, or the old segment is absent. -/
def Crossing.changesZone (x : Crossing) : Bool :=
  match x.old with
  | some (_, old) => decide (old.zone ≠ x.new.2.zone)
  | none => true

/-! ### Link manager (02) -/

inductive LinkKind where
  | coastal | satellite | harbour
deriving DecidableEq, Repr

inductive LinkState where
  | unconfigured | off | warming | standby | active | retiring | failed
deriving DecidableEq, Repr

/-- The high and low mark of a class queue on a link, in blocks (R95). -/
structure Marks where
  high : Nat
  low : Nat
deriving DecidableEq, Repr

/-- The link record (02 section 3.1.2). -/
structure Link where
  kind : Option LinkKind
  state : LinkState
  enable : Bool
  carrier : Bool
  warmUp : Option Nat
  linger : Nat
  share : Nat
  marks : PerClass Marks
  levels : PerClass Nat
  floor : Nat
  qu : Nat
  hq : Nat
  qd : Nat
  quality : Nat
  fit : Bool
  degraded : Bool
  warmUpDeadline : Option Nat
  lingerDeadline : Option Nat
deriving DecidableEq, Repr

/-- R18. The carrier level at power-on is not given: absent (DESIGN CHOICE, log entry 5). -/
def Link.reset : Link :=
  { kind := none, state := .unconfigured, enable := false, carrier := false, warmUp := none, linger := 600, share := 512,
    marks := .all ⟨192, 96⟩, levels := ⟨3, 3, 2, 1⟩, floor := 1, qu := 120, hq := 40, qd := 300, quality := 512,
    fit := true, degraded := false, warmUpDeadline := none, lingerDeadline := none }

/-- The class age limits at full reset, in milliseconds (R18). -/
def resetAgeLimits : PerClass Nat := ⟨2000, 150, 1000, 4000⟩

/-! ### Route unit (03) -/

inductive SwapKind where
  | routine | forced
deriving DecidableEq, Repr

/-- A route's swap state, with the kind, target and deadline that are present in it. In PROBATION the target is the
bound link (03 section 4.2). -/
inductive SwapState where
  | idle
  | waking (kind : SwapKind) (target : LinkId)
  | probation (kind : SwapKind) (deadline : Nat)
deriving DecidableEq, Repr

/-- The route record (03 section 4.2). A draining link comes with its drain deadline, a settle candidate with its settle
deadline. -/
structure Route where
  permitted : LinkMask
  drainLimit : Nat
  probationTime : Nat
  settleTime : Nat
  bound : Option LinkId
  swap : SwapState
  draining : Option (LinkId × Nat)
  lastGood : Option LinkId
  settle : Option (LinkId × Nat)
  reselect : Bool
deriving DecidableEq, Repr

/-- R38. -/
def Route.reset : Route :=
  { permitted := 0, drainLimit := 10, probationTime := 20, settleTime := 30, bound := none, swap := .idle,
    draining := none, lastGood := none, settle := none, reselect := false }

/-! ### Session unit (04) -/

structure Bearer where
  tag : Nat
  cls : TrafficClass
deriving DecidableEq, Repr

/-- The restriction causes of a session (04 section 5.6). -/
structure Causes where
  funds : Bool
  barred : Bool
  roaming : Bool
deriving DecidableEq, Repr

/-- Why a session closes (R76). -/
inductive SessionClose where
  | detach | expiry
deriving DecidableEq, Repr

/-- The state of a session that is not FREE, with the field present in it: the park deadline while PARKED, the close
reason while CLOSING. -/
inductive Phase where
  | active
  | parked (deadline : Nat)
  | closing (reason : SessionClose)
deriving DecidableEq, Repr

/-- The record of a session that is not FREE (04 section 5.1.1). A FREE handle has no record: every field of it is at
its reset value (R66, R78; log entry 25). -/
structure Session where
  phase : Phase
  digest : BitVec 64
  group : RouteId
  account : Nat
  address : BitVec 32
  bearers : List Bearer
  causes : Causes
  parkHold : Nat
  attachTime : Stamp
deriving DecidableEq, Repr

/-! ### Frame switch (05) -/

inductive Direction where
  | up | down
deriving DecidableEq, Repr

/-- The frame record (05 section 6.2). -/
structure Frame where
  direction : Direction
  session : Nat
  cls : TrafficClass
  route : Option RouteId
  link : Option LinkId
  length : Nat
  blocks : Nat
  arrival : Nat
deriving DecidableEq, Repr

/-- The class queues and hold latches of one link (R93, R95). A queue's head is its first element. -/
structure LinkQueues where
  frames : PerClass (List Frame)
  latch : PerClass Bool
deriving DecidableEq, Repr

/-- R92. -/
def LinkQueues.reset : LinkQueues := { frames := .all [], latch := .all false }

/-! ### Meter (06) -/

/-- Why a context closed (06 section 7.4). -/
inductive CloseReason where
  | interval | byteLimit | zone | tariff | park | detach | expiry | evict
deriving DecidableEq, Repr

/-- A charging context's fields from its opening on (06 section 7.1). -/
structure Context where
  session : Nat
  cls : TrafficClass
  zone : Nat
  group : RouteId
  account : Nat
  rate : Nat
  openTime : Stamp
  bytesUp : Nat
  bytesDown : Nat
  charge : Nat
  residue : Nat
  clipped : Bool
deriving DecidableEq, Repr

/-- A charging record, in the fields and values of its 40-byte layout (R123, R141, 08 section 9.7.3). -/
structure ChargeRecord where
  kind : Nat
  reason : Nat
  cls : Nat
  zone : Nat
  group : Nat
  clipped : Bool
  clockUnset : Bool
  session : Nat
  account : Nat
  digest : BitVec 64
  openTime : BitVec 32
  closeTime : BitVec 32
  bytesUp : Nat
  bytesDown : Nat
  charge : Nat
deriving DecidableEq, Repr

/-- A context slot that is not FREE (R112): OPEN with its interval deadline, or SEALED with its close reason, close time
and finished record. -/
inductive Slot where
  | opened (context : Context) (deadline : Nat)
  | sealed (context : Context) (reason : CloseReason) (closeTime : Stamp) (record : ChargeRecord)
deriving DecidableEq, Repr

/-- The meter's parameters: close interval in seconds, byte limit in MiB, record mark (R114). -/
structure MeterParameters where
  interval : Nat
  byteLimit : Nat
  recordMark : Nat
deriving DecidableEq, Repr

/-- R113. -/
def MeterParameters.reset : MeterParameters := { interval := 300, byteLimit := 16, recordMark := 32 }

/-! ### Account unit (07) -/

inductive Permission where
  | allow | signallingOnly | deny
deriving DecidableEq, Repr

/-- A tariff table entry (07 section 8.2). -/
structure TariffEntry where
  permission : Permission
  rates : PerClass Nat
deriving DecidableEq, Repr

inductive AccountKind where
  | prepaid | postpaid | crew
deriving DecidableEq, Repr

/-- An account's unrecorded carry: the last six fields of the table in 07 section 8.3. -/
structure Carry where
  bytesUp : Nat
  bytesDown : Nat
  charge : Nat
  clipped : Bool
  first : Option Stamp
  last : Option Stamp
deriving DecidableEq, Repr

def Carry.clear : Carry :=
  { bytesUp := 0, bytesDown := 0, charge := 0, clipped := false, first := none, last := none }

/-- The account record (07 section 8.3). -/
structure Account where
  isOpen : Bool
  kind : Option AccountKind
  balance : Nat
  shortfall : Nat
  threshold : Option Nat
  spend : Nat
  cap : Option Nat
  funds : Bool
  low : Bool
  clipped : Bool
  sequence : BitVec 16
  rated : Nat
  delivered : Nat
  carry : Carry
deriving DecidableEq, Repr

/-- R132. -/
def Account.reset : Account :=
  { isOpen := false, kind := none, balance := 0, shortfall := 0, threshold := none, spend := 0, cap := none,
    funds := false, low := false, clipped := false, sequence := 0, rated := 0, delivered := 0, carry := .clear }

/-! ### Port interface and notice unit (08, 09) -/

inductive Sync where
  | locked | lost
deriving DecidableEq, Repr

inductive Service where
  | configuring | serving
deriving DecidableEq, Repr

/-- The voyage clock (R156): its seconds, whether it has been set, and the timer time of its next second. -/
structure VoyageClock where
  seconds : BitVec 32
  isSet : Bool
  nextSecond : Nat
deriving DecidableEq, Repr

/-- R156. -/
def VoyageClock.reset : VoyageClock := { seconds := 0, isSet := false, nextSecond := 1000 }

/-- The notice kinds, in the order of their codes (08 section 9.7.2). -/
inductive NoticeKind where
  | peerRestart | coverageOff | routeDark | sessionRestricted | sessionReleased | linkFailed | swapRollback
  | zoneCrossed | positionStale | linkReady | swapDone | drainDiscard | recordBacklog | fundsOut | unrecorded
  | lowBalance | recordsWaiting
deriving DecidableEq, Repr

/-- What a pending slot has gathered (09 section 10.2). -/
structure Gathered where
  count : Nat
  subject : Nat
  firstTime : Nat
deriving DecidableEq, Repr

/-- A notice slot (09 section 10.2): its kind, its kind level (4 for URGENT) and, while it is pending, what it holds. -/
structure NoticeSlot where
  kind : NoticeKind
  level : Nat
  pending : Option Gathered
deriving DecidableEq, Repr

/-- The kinds of a port in its fixed kind order, each with its default level, 4 for URGENT (Table 10-1). -/
def defaultLevels : Port → List (NoticeKind × Nat)
  | .rp => [(.peerRestart, 4), (.coverageOff, 4), (.routeDark, 3), (.sessionRestricted, 2), (.sessionReleased, 1)]
  | .lp => [(.peerRestart, 4), (.linkFailed, 3), (.routeDark, 3), (.swapRollback, 3), (.zoneCrossed, 2),
      (.positionStale, 2), (.linkReady, 2), (.swapDone, 1), (.drainDiscard, 1)]
  | .pp => [(.peerRestart, 4), (.recordBacklog, 3), (.fundsOut, 3), (.unrecorded, 3), (.lowBalance, 2),
      (.recordsWaiting, 2), (.zoneCrossed, 1)]

/-- A port's slots with every level at its default and nothing pending (R163, R168). -/
def defaultSlots (p : Port) : List NoticeSlot := (defaultLevels p).map fun x => ⟨x.1, x.2, none⟩

/-- What the port interface and the notice unit hold of one port (08 section 9.1, 09 section 10.2). `baselines` lists the
counters' baselines that are not 0, by counter number. -/
structure PortState where
  inbound : List Message
  outbound : List Message
  startFlag : Bool
  sync : Sync
  level : Nat
  pacing : Nat
  pacingDeadline : Option Nat
  slots : List NoticeSlot
  baselines : Table (BitVec 40)
deriving DecidableEq, Repr

/-- R147, R163, R169. -/
def PortState.reset (p : Port) : PortState :=
  { inbound := [], outbound := [], startFlag := false, sync := .locked, level := 3, pacing := 0, pacingDeadline := none,
    slots := defaultSlots p, baselines := .empty }

/-- An occurrence of a notice kind, raised on a port with a subject (R161). -/
structure Occurrence where
  port : Port
  kind : NoticeKind
  subject : Nat
deriving DecidableEq, Repr

end Sys2Proof.Machine
end

