-- ==== Sys2Proof/Machine/State.lean ====
section
/-! DEFINITION. The state of the part, as plain data, and the state right after a power-on reset. -/

namespace Sys2Proof.Machine

/-- Everything the spec gives the part, block by block, and two fields of the model's own: the queue of commands that
wait, and the occurrences raised so far inside the event in hand. -/
structure State where
  /-- Timer time, in milliseconds since the last full reset (R157). -/
  now : Nat
  zone : Zone
  links : Vector Link 6
  ageLimits : PerClass Nat
  poolShare : Nat
  routes : Vector Route 8
  /-- The session records that are not FREE, by handle. -/
  sessions : Table Session
  /-- The bearer map's entries that are not FREE, by tag: a handle and a class (R68). -/
  bearerMap : Table (Nat × TrafficClass)
  queues : Vector LinkQueues 6
  pool : PerClass (List Frame)
  /-- The context slots that are not FREE, by slot number (R112). -/
  slots : Table Slot
  openList : List Nat
  sealList : List Nat
  meter : MeterParameters
  /-- The tariff table's 64 entries in zone order and, within a zone, group order (R130); absent until loaded (R129). -/
  tariff : Option (List TariffEntry)
  /-- The accounts that differ from a CLOSED account as full reset leaves it (R132), by number. -/
  accounts : Table Account
  /-- The charging record queue, head first (R143). -/
  crq : List ChargeRecord
  service : Service
  clock : VoyageClock
  ports : PerPort PortState
  /-- The counters that are not 0, by their place in Table 10-2 (R169). -/
  counters : Table (BitVec 40)
  /-- The MODEL's own: the occurrences raised inside the event in hand, in order; empty between events (log entry 26). -/
  raised : List Occurrence
  /-- The commands that wait, first in, first out. -/
  pending : List Instr
deriving DecidableEq, Repr

/-- Nothing stops the part: the spec refuses a request with a response code and drops a frame with a count, so no
command of the model ends in a fault, and there is no constructor. -/
inductive Fault where
deriving DecidableEq, Repr

/-- The reasons for which there is no meaning. -/
inductive Refusal where
  /-- Raised by the dispatch, and by nothing else, for a command that has no meaning in the model. No arm raises it: every
  command of the table has its meaning. Safe: it stops where the part goes on. -/
  | notModelled (mnemonic : String)
deriving DecidableEq, Repr

/-- The part right after power-on: every block at its full reset values (R7, R18, R38, R66, R92, R113, R129, R132, R145,
R147, R156, R157, R163, R169), the service CONFIGURING, no command waiting. -/
def State.reset : State :=
  { now := 0
    zone := .reset
    links := .replicate 6 .reset
    ageLimits := resetAgeLimits
    poolShare := 1024
    routes := .replicate 8 .reset
    sessions := .empty
    bearerMap := .empty
    queues := .replicate 6 .reset
    pool := .all []
    slots := .empty
    openList := []
    sealList := []
    meter := .reset
    tariff := none
    accounts := .empty
    crq := []
    service := .configuring
    clock := .reset
    ports := ⟨.reset .rp, .reset .lp, .reset .pp⟩
    counters := .empty
    raised := []
    pending := [] }

end Sys2Proof.Machine
end

