-- ==== Sys2Proof/Machine/Ops.lean ====
section
/-! DEFINITION. The named operations over the state: sparse tables, reading and writing each record, the current segment,
the counts the frame switch keeps, counters, stamps and the occurrence log. -/

namespace Sys2Proof

/-- The entry at a key. -/
def Table.lookup {α : Type} : List (Nat × α) → Nat → Option α
  | [], _ => none
  | (j, v) :: rest, k => if k = j then some v else Table.lookup rest k

/-- The list without any entry at a key. -/
def Table.without {α : Type} : List (Nat × α) → Nat → List (Nat × α)
  | [], _ => []
  | (j, v) :: rest, k => if k = j then Table.without rest k else (j, v) :: Table.without rest k

/-- The list with an entry put before the first greater key. -/
def Table.place {α : Type} : List (Nat × α) → Nat → α → List (Nat × α)
  | [], k, v => [(k, v)]
  | (j, w) :: rest, k, v => if k < j then (k, v) :: (j, w) :: rest else (j, w) :: Table.place rest k v

def Table.get? {α : Type} (t : Table α) (k : Nat) : Option α := Table.lookup t.entries k

/-- The table with the entry at a key replaced, or removed. -/
def Table.put {α : Type} (t : Table α) (k : Nat) (v : Option α) : Table α :=
  match v with
  | none => ⟨Table.without t.entries k⟩
  | some x => ⟨Table.place (Table.without t.entries k) k x⟩

/-- The keys that have an entry, in rising order. -/
def Table.keys {α : Type} (t : Table α) : List Nat := t.entries.map (·.1)

/-- Keys rise strictly. -/
def Table.risingKeys : List Nat → Bool
  | [] => true
  | [_] => true
  | j :: k :: rest => decide (j < k) && Table.risingKeys (k :: rest)

/-- The canonical form of a table whose keys are below `n`. -/
def Table.wf {α : Type} (t : Table α) (n : Nat) : Bool := Table.risingKeys t.keys && t.keys.all (decide <| · < n)

/-- A port's number in a message header (08 section 9.7.1). -/
def Port.number : Port → Nat
  | .rp => 0
  | .lp => 1
  | .pp => 2

/-- A class's number in the fixed class order. -/
def TrafficClass.number : TrafficClass → Nat
  | .c0 => 0
  | .c1 => 1
  | .c2 => 2
  | .c3 => 3

end Sys2Proof

namespace Sys2Proof.Machine

/-- The six links, the eight routes, the four classes in the fixed class order, the three ports. -/
def allLinks : List LinkId := [0, 1, 2, 3, 4, 5]
def allRoutes : List RouteId := [0, 1, 2, 3, 4, 5, 6, 7]
def allClasses : List TrafficClass := [.c0, .c1, .c2, .c3]
def allPorts : List Port := [.rp, .lp, .pp]

/-! ### Reading and writing the records -/

def State.link (s : State) (k : LinkId) : Link := s.links.get k
def State.setLink (s : State) (k : LinkId) (l : Link) : State := { s with links := s.links.set k.val l k.isLt }
def State.modifyLink (s : State) (k : LinkId) (f : Link → Link) : State := s.setLink k (f (s.link k))

def State.route (s : State) (r : RouteId) : Route := s.routes.get r
def State.setRoute (s : State) (r : RouteId) (x : Route) : State := { s with routes := s.routes.set r.val x r.isLt }
def State.modifyRoute (s : State) (r : RouteId) (f : Route → Route) : State := s.setRoute r (f (s.route r))

def State.linkQueues (s : State) (k : LinkId) : LinkQueues := s.queues.get k
def State.setLinkQueues (s : State) (k : LinkId) (q : LinkQueues) : State :=
  { s with queues := s.queues.set k.val q k.isLt }

def State.port (s : State) (p : Port) : PortState := s.ports.get p
def State.setPort (s : State) (p : Port) (x : PortState) : State := { s with ports := s.ports.set p x }
def State.modifyPort (s : State) (p : Port) (f : PortState → PortState) : State := s.setPort p (f (s.port p))

/-- The session of a handle, absent when the handle is FREE. -/
def State.session (s : State) (h : Nat) : Option Session := s.sessions.get? h
def State.setSession (s : State) (h : Nat) (x : Option Session) : State := { s with sessions := s.sessions.put h x }
/-- Change a session's record; nothing for a FREE handle. -/
def State.modifySession (s : State) (h : Nat) (f : Session → Session) : State :=
  match s.session h with
  | some x => s.setSession h (some (f x))
  | none => s

/-- The park hold of a handle's record: 7200 s while it is FREE (R66, R78). -/
def State.parkHold (s : State) (h : Nat) : Nat :=
  match s.session h with
  | some x => x.parkHold
  | none => Config.defaultParkHold

/-- The entry of a bearer tag, absent when the tag is FREE (R68). -/
def State.tagEntry (s : State) (tag : Nat) : Option (Nat × TrafficClass) := s.bearerMap.get? tag
def State.setTag (s : State) (tag : Nat) (e : Option (Nat × TrafficClass)) : State :=
  { s with bearerMap := s.bearerMap.put tag e }

/-- An account's record; an account with no entry is as full reset leaves it (R132). -/
def State.account (s : State) (a : Nat) : Account := (s.accounts.get? a).getD Account.reset
def State.setAccount (s : State) (a : Nat) (x : Account) : State :=
  { s with accounts := s.accounts.put a (if x = Account.reset then none else some x) }
def State.modifyAccount (s : State) (a : Nat) (f : Account → Account) : State := s.setAccount a (f (s.account a))

/-- A context slot, absent when it is FREE (R112). -/
def State.slot (s : State) (i : Nat) : Option Slot := s.slots.get? i
def State.setSlot (s : State) (i : Nat) (x : Option Slot) : State := { s with slots := s.slots.put i x }

/-! ### Time and stamps -/

/-- A stamp of the present voyage clock (R156). -/
def State.stamp (s : State) : Stamp := ⟨s.clock.seconds, s.clock.isSet⟩

/-- A timer time that lies a number of seconds ahead. -/
def State.after (s : State) (seconds : Nat) : Nat := s.now + seconds * 1000

/-- A deadline that stands and has been reached. -/
def State.reached (s : State) (deadline : Option Nat) : Bool :=
  match deadline with
  | some d => decide (d ≤ s.now)
  | none => false

/-! ### The current segment (R1) -/

/-- The fix of a tracker that has a current segment. -/
def Tracker.fix? : Tracker → Option Fix
  | .unlocated => none
  | .located f _ => some f
  | .stale f => some f

/-- The current segment's index: absent while UNLOCATED. -/
def State.segmentIndex (s : State) : Option Nat := s.zone.tracker.fix?.map (·.segment)

/-- The current segment's record. -/
def State.segment (s : State) : Option Segment := s.segmentIndex.bind fun i => s.zone.table[i]?

/-- The current tariff zone. -/
def State.currentZone (s : State) : Option (Fin 8) := s.segment.map (·.zone)

/-- "The part is in a silent segment". -/
def State.silent (s : State) : Bool :=
  match s.segment with
  | some g => g.silent
  | none => false

/-- The segment containing a distance: the last one that starts at or below it (R1). -/
def segmentAt (table : List Segment) (d : Nat) : Nat := (table.filter fun g => decide (g.start ≤ d)).length - 1

/-- The end of segment `i`: one less than the next start, or 65535 for the last (R1). -/
def segmentEnd (table : List Segment) (i : Nat) : Nat :=
  match table[i + 1]? with
  | some g => g.start - 1
  | none => 65535

/-! ### Link masks -/

/-- The mask names the link. -/
def inMask (m : LinkMask) (k : LinkId) : Bool := m.getLsbD k.val

/-! ### The tariff table (R129, R130) -/

/-- The tariff entry of a zone and a group. Where no table is loaded, or the list has no such entry, its fields are
undefined (R129): free values (log entry 8). -/
def State.tariffEntry (s : State) (zone : Nat) (group : RouteId) : TariffEntry :=
  match s.tariff.bind fun t => t[zone * 8 + group.val]? with
  | some e => e
  | none =>
    { permission :=
        match Config.undefinedPermission zone group with
        | 0 => .allow
        | 1 => .signallingOnly
        | 2 => .deny
      rates := ⟨Config.undefinedRate zone group 0, Config.undefinedRate zone group 1, Config.undefinedRate zone group 2,
        Config.undefinedRate zone group 3⟩ }

/-- The tariff entry of the current tariff zone and a group; with no current zone the entry is undefined as well. -/
def State.currentEntry (s : State) (group : RouteId) : TariffEntry :=
  s.tariffEntry ((s.currentZone.map (·.val)).getD 8) group

/-! ### The counts the frame switch keeps (R90, R93), computed from the queues (log entry 21) -/

/-- The blocks of a frame of `n` bytes: `ceil(n / 256)` (R90). -/
def blocksOf (n : Nat) : Nat := (n + (Config.blockBytes - 1)) / Config.blockBytes

/-- The occupancy of a class queue (R90). -/
def occupancy (q : List Frame) : Nat := (q.map (·.blocks)).sum

/-- The occupancy of four class queues together (R90). -/
def occupancyAll (q : PerClass (List Frame)) : Nat :=
  occupancy q.c0 + occupancy q.c1 + occupancy q.c2 + occupancy q.c3

/-- How many frames of four class queues meet a test. -/
def countFrames (q : PerClass (List Frame)) (test : Frame → Bool) : Nat :=
  q.c0.countP test + q.c1.countP test + q.c2.countP test + q.c3.countP test

/-- The count of frames queued on a link (R110). -/
def State.queuedOn (s : State) (k : LinkId) : Nat := countFrames (s.linkQueues k).frames fun _ => true

/-- The count of a route's frames queued on a link (R93). -/
def State.routeFrames (s : State) (r : RouteId) (k : LinkId) : Nat :=
  countFrames (s.linkQueues k).frames fun f => f.route = some r

/-- A session's queued frames count (R93). -/
def State.queuedFrames (s : State) (h : Nat) : Nat :=
  (allLinks.map fun k => countFrames (s.linkQueues k).frames fun f => f.session = h).sum
    + countFrames s.pool fun f => f.session = h

/-- The count of routes bound to a link. -/
def State.boundRoutes (s : State) (k : LinkId) : Nat := allRoutes.countP fun r => (s.route r).bound = some k

/-! ### Counters (R169, Table 10-2) -/

inductive UplinkDrop where
  | malformed | noBearer | parked | spoof | restricted | dark | full
deriving DecidableEq, Repr

inductive DownlinkDrop where
  | linkState | malformed | unknown | gone | parked | restricted | full
deriving DecidableEq, Repr

inductive Counter where
  | framesSent (k : LinkId) | bytesSent (k : LinkId) | framesReceived (k : LinkId) | bytesReceived (k : LinkId)
  | uplink (why : UplinkDrop) | downlink (why : DownlinkDrop)
  | aged (k : LinkId) (c : TrafficClass) | agedPool (c : TrafficClass)
  | failureLoss (k : LinkId) (c : TrafficClass) | drain (k : LinkId) (c : TrafficClass)
  | poolGone | poolParked
  | degradedPosition | ignoredReport (k : LinkId)
deriving DecidableEq, Repr

def UplinkDrop.number : UplinkDrop → Nat
  | .malformed => 0 | .noBearer => 1 | .parked => 2 | .spoof => 3 | .restricted => 4 | .dark => 5 | .full => 6

def DownlinkDrop.number : DownlinkDrop → Nat
  | .linkState => 0 | .malformed => 1 | .unknown => 2 | .gone => 3 | .parked => 4 | .restricted => 5 | .full => 6

/-- A counter's place in Table 10-2: TRAFFIC from 0, DROPS from 24, MEASUREMENTS from 116. Of the counters kept for each class and
each link, the four of one link stand together, link by link, and those of the pool behind them (DESIGN CHOICE, log entry 45). -/
def Counter.number : Counter → Nat
  | .framesSent k => 4 * k.val
  | .bytesSent k => 4 * k.val + 1
  | .framesReceived k => 4 * k.val + 2
  | .bytesReceived k => 4 * k.val + 3
  | .uplink w => 24 + w.number
  | .downlink w => 31 + w.number
  | .aged k c => 38 + 4 * k.val + c.number
  | .agedPool c => 62 + c.number
  | .failureLoss k c => 66 + 4 * k.val + c.number
  | .drain k c => 90 + 4 * k.val + c.number
  | .poolGone => 114
  | .poolParked => 115
  | .degradedPosition => 116
  | .ignoredReport k => 117 + k.val

/-- A 40-bit value kept in a table that lists what is not 0. -/
def counterValue (t : Table (BitVec 40)) (n : Nat) : BitVec 40 := (t.get? n).getD 0

/-- The table with one value replaced. -/
def setCounter (t : Table (BitVec 40)) (n : Nat) (v : BitVec 40) : Table (BitVec 40) :=
  t.put n (if v = 0 then none else some v)

def State.counter (s : State) (c : Counter) : BitVec 40 := counterValue s.counters c.number

/-- Raise a counter; a 40-bit count wraps past its top (R169). -/
def State.count (s : State) (c : Counter) (n : Nat) : State :=
  { s with counters := setCounter s.counters c.number (s.counter c + BitVec.ofNat 40 n) }

/-! ### Occurrences (R161) -/

/-- Note an occurrence of a notice kind on a port. -/
def State.raise (s : State) (p : Port) (k : NoticeKind) (subject : Nat) : State :=
  { s with raised := s.raised ++ [⟨p, k, subject⟩] }

/-- Note SESSION_RESTRICTED for a session, once in an event (R79). -/
def State.raiseRestricted (s : State) (h : Nat) : State :=
  if s.raised.contains ⟨.rp, .sessionRestricted, h⟩ then s else s.raise .rp .sessionRestricted h

end Sys2Proof.Machine
end

