-- ==== Sys2Proof/Machine/Operands.lean ====
section
/-! DEFINITION. The operands of the requests: the fields each request's body carries, read by R160's layout in the order the
owning rule lists them; the request codes, the ports that may send them (R152), and the response codes (R151).

A reader takes the bytes that are left and gives a field and the bytes after it, or nothing where the form is broken. -/

namespace Sys2Proof.Machine

/-! ### Fields (R160) -/

/-- A number's bytes, most significant first (08 section 9.7). -/
def beBytes : Nat → Nat → List Byte
  | 0, _ => []
  | n + 1, v => BitVec.ofNat 8 (v / 256 ^ n) :: beBytes n v

/-- The number some bytes hold, most significant first. -/
def beNumber (b : List Byte) : Nat := b.foldl (fun n x => 256 * n + x.toNat) 0

abbrev Reader (α : Type) := List Byte → Option (α × List Byte)

/-- A field of `n` bytes. -/
def readField (n : Nat) : Reader Nat := fun b =>
  if b.length < n then none else some (beNumber (b.take n), b.drop n)

/-- A yes/no field: one byte, 0 or 1. -/
def readYesNo : Reader Bool := fun b =>
  match readField 1 b with
  | some (0, rest) => some (false, rest)
  | some (1, rest) => some (true, rest)
  | _ => none

/-- An optional field: a presence byte of 0, or of 1 and then the field. -/
def readOptional {α : Type} (field : Reader α) : Reader (Option α) := fun b =>
  match readField 1 b with
  | some (0, rest) => some (none, rest)
  | some (1, rest) =>
    match field rest with
    | some (v, rest) => some (some v, rest)
    | none => none
  | _ => none

/-- A field that may be absent, NONE or a value (R139): a presence byte of 0, of 2, or of 1 and then the field. -/
inductive Setting where
  | keep | remove | value (v : Nat)
deriving DecidableEq, Repr

def readSetting (n : Nat) : Reader Setting := fun b =>
  match readField 1 b with
  | some (0, rest) => some (.keep, rest)
  | some (2, rest) => some (.remove, rest)
  | some (1, rest) =>
    match readField n rest with
    | some (v, rest) => some (.value v, rest)
    | none => none
  | _ => none

/-- `n` items one after another. -/
def readTimes {α : Type} (item : Reader α) : Nat → Reader (List α)
  | 0, b => some ([], b)
  | n + 1, b =>
    match item b with
    | none => none
    | some (v, rest) =>
      match readTimes item n rest with
      | some (vs, rest) => some (v :: vs, rest)
      | none => none

/-- A list: a byte giving its count, then its items. -/
def readList {α : Type} (item : Reader α) : Reader (List α) := fun b =>
  match readField 1 b with
  | some (n, rest) => readTimes item n rest
  | none => none

/-- The whole body is read: "no byte left over" (R149 step 3). -/
def whole {α : Type} (r : Option (α × List Byte)) : Option α :=
  match r with
  | some (v, []) => some v
  | _ => none

/-! ### Writing fields -/

def yesNo (v : Bool) : List Byte := [if v then 1 else 0]

def optionalBytes {α : Type} (write : α → List Byte) : Option α → List Byte
  | none => [0]
  | some v => 1 :: write v

def listBytes {α : Type} (write : α → List Byte) (l : List α) : List Byte := beBytes 1 l.length ++ l.flatMap write

/-- A stamp: four bytes of seconds and a yes/no byte for its set flag (log entry 15). -/
def stampBytes (t : Stamp) : List Byte := beBytes 4 t.seconds.toNat ++ yesNo t.isSet

/-! ### Names: the number of a name in the order its chapter first lists the names (R160) -/

def LinkState.number : LinkState → Nat
  | .unconfigured => 0 | .off => 1 | .warming => 2 | .standby => 3 | .active => 4 | .retiring => 5 | .failed => 6
def LinkKind.number : LinkKind → Nat
  | .coastal => 0 | .satellite => 1 | .harbour => 2
def LinkKind.ofNumber : Nat → Option LinkKind
  | 0 => some .coastal | 1 => some .satellite | 2 => some .harbour | _ => none
def SwapKind.number : SwapKind → Nat
  | .routine => 0 | .forced => 1
def SwapState.number : SwapState → Nat
  | .idle => 0 | .waking _ _ => 1 | .probation _ _ => 2
def Tracker.number : Tracker → Nat
  | .unlocated => 0 | .located _ _ => 1 | .stale _ => 2
def RunDirection.number : RunDirection → Nat
  | .up => 0 | .down => 1
/-- FREE 0, ACTIVE 1, PARKED 2, CLOSING 3. -/
def Phase.number : Phase → Nat
  | .active => 1 | .parked _ => 2 | .closing _ => 3
def SessionClose.number : SessionClose → Nat
  | .detach => 0 | .expiry => 1
def Permission.ofNumber : Nat → Option Permission
  | 0 => some .allow | 1 => some .signallingOnly | 2 => some .deny | _ => none
def AccountKind.number : AccountKind → Nat
  | .prepaid => 0 | .postpaid => 1 | .crew => 2
def AccountKind.ofNumber : Nat → Option AccountKind
  | 0 => some .prepaid | 1 => some .postpaid | 2 => some .crew | _ => none
def Service.number : Service → Nat
  | .configuring => 0 | .serving => 1
def classOf : Nat → Option TrafficClass
  | 0 => some .c0 | 1 => some .c1 | 2 => some .c2 | 3 => some .c3 | _ => none
def linkOf (n : Nat) : Option LinkId := if h : n < 6 then some ⟨n, h⟩ else none
def routeOf (n : Nat) : Option RouteId := if h : n < 8 then some ⟨n, h⟩ else none

/-- A cause set: one byte, bit 0 FUNDS, bit 1 BARRED, bit 2 ROAMING (DESIGN CHOICE, log entry 15). -/
def causeBytes (x : Causes) : List Byte :=
  [BitVec.ofNat 8 (x.funds.toNat + 2 * x.barred.toNat + 4 * x.roaming.toNat)]

/-! ### Response codes (R151) -/

inductive ResponseCode where
  | ok | busy | notPermitted | notReady | wrongState | noSpace | noSuch | invalid | stale | inUse | silent | denied
  | unusable
deriving DecidableEq, Repr

def ResponseCode.number : ResponseCode → Nat
  | .ok => 0 | .busy => 1 | .notPermitted => 2 | .notReady => 3 | .wrongState => 4 | .noSpace => 5 | .noSuch => 6
  | .invalid => 7 | .stale => 8 | .inUse => 9 | .silent => 10 | .denied => 11 | .unusable => 12

/-! ### The fields of each request -/

structure AttachFields where
  digest : BitVec 64
  group : Nat
  account : Nat
  address : BitVec 32
  bearers : List (Nat × Nat)
  parkHold : Option Nat
deriving DecidableEq, Repr

def readPair (m n : Nat) : Reader (Nat × Nat) := fun b => do
  let (x, b) ← readField m b
  let (y, b) ← readField n b
  some ((x, y), b)

/-- R70. -/
def readAttach (b : List Byte) : Option AttachFields := whole do
  let (digest, b) ← readField 8 b
  let (group, b) ← readField 1 b
  let (account, b) ← readField 2 b
  let (address, b) ← readField 4 b
  let (bearers, b) ← readList (readPair 2 1) b
  let (parkHold, b) ← readOptional (readField 2) b
  some (⟨BitVec.ofNat 64 digest, group, account, BitVec.ofNat 32 address, bearers, parkHold⟩, b)

/-- A body of one field of `n` bytes (R67, R65, R37, R132, R170, and others). -/
def readOne (n : Nat) (b : List Byte) : Option Nat := whole (readField n b)

structure BearerFields where
  handle : Nat
  tag : Nat
  cls : Nat
deriving DecidableEq, Repr

/-- R73. -/
def readBearerAdd (b : List Byte) : Option BearerFields := whole do
  let (handle, b) ← readField 2 b
  let (tag, b) ← readField 2 b
  let (cls, b) ← readField 1 b
  some (⟨handle, tag, cls⟩, b)

/-- R74: a handle and a tag. -/
def readBearerDrop (b : List Byte) : Option (Nat × Nat) := whole (readPair 2 2 b)

structure LinkSetupFields where
  link : Nat
  kind : Nat
  warmUp : Option Nat
  linger : Option Nat
  share : Option Nat
  marks : PerClass (Option (Nat × Nat))
deriving DecidableEq, Repr

/-- Four fields, one for each class in the fixed class order. -/
def readPerClass {α : Type} (item : Reader α) : Reader (PerClass α) := fun b => do
  let (x0, b) ← item b
  let (x1, b) ← item b
  let (x2, b) ← item b
  let (x3, b) ← item b
  some (⟨x0, x1, x2, x3⟩, b)

/-- R19. A pair of marks is its high mark and its low mark, with one presence byte for the pair (log entry 14). -/
def readLinkSetup (b : List Byte) : Option LinkSetupFields := whole do
  let (link, b) ← readField 1 b
  let (kind, b) ← readField 1 b
  let (warmUp, b) ← readOptional (readField 2) b
  let (linger, b) ← readOptional (readField 2) b
  let (share, b) ← readOptional (readField 2) b
  let (marks, b) ← readPerClass (readOptional (readPair 2 2)) b
  some (⟨link, kind, warmUp, linger, share, marks⟩, b)

structure LinkTuneFields where
  link : Nat
  levels : PerClass (Option Nat)
  floor : Option Nat
  qu : Option Nat
  hq : Option Nat
  qd : Option Nat
  ages : PerClass (Option Nat)
deriving DecidableEq, Repr

/-- R21. -/
def readLinkTune (b : List Byte) : Option LinkTuneFields := whole do
  let (link, b) ← readField 1 b
  let (levels, b) ← readPerClass (readOptional (readField 1)) b
  let (floor, b) ← readOptional (readField 1) b
  let (qu, b) ← readOptional (readField 2) b
  let (hq, b) ← readOptional (readField 2) b
  let (qd, b) ← readOptional (readField 2) b
  let (ages, b) ← readPerClass (readOptional (readField 2)) b
  some (⟨link, levels, floor, qu, hq, qd, ages⟩, b)

/-- LINK_POWER and LINK_STATUS: a link and a name, ON 0, OFF 1, or UP 0, DOWN 1 (R22, R29). -/
def readLinkName (b : List Byte) : Option (Nat × Nat) := whole (readPair 1 1 b)

/-- R33: a link and a measurement. -/
def readLinkReport (b : List Byte) : Option (Nat × Nat) := whole (readPair 1 2 b)

/-- R8: a distance and a fix quality, GOOD 0, DEGRADED 1. -/
def readPosition (b : List Byte) : Option (Nat × Nat) := whole (readPair 2 1 b)

/-- A segment record as a ZONE_LOAD carries it, its values not yet checked. -/
structure RawSegment where
  start : Nat
  zone : Nat
  silent : Bool
  usable : LinkMask
  prefs : List Nat
deriving DecidableEq, Repr

def readSegment : Reader RawSegment := fun b => do
  let (start, b) ← readField 2 b
  let (zone, b) ← readField 1 b
  let (silent, b) ← readYesNo b
  let (usable, b) ← readField 1 b
  let (prefs, b) ← readList (readField 1) b
  some (⟨start, zone, silent, BitVec.ofNat 8 usable, prefs⟩, b)

structure ZoneLoadFields where
  segments : List RawSegment
  guardDistance : Option Nat
  confirmCount : Option Nat
  staleLimit : Option Nat
deriving DecidableEq, Repr

/-- R2. -/
def readZoneLoad (b : List Byte) : Option ZoneLoadFields := whole do
  let (segments, b) ← readList readSegment b
  let (guardDistance, b) ← readOptional (readField 2) b
  let (confirmCount, b) ← readOptional (readField 1) b
  let (staleLimit, b) ← readOptional (readField 2) b
  some (⟨segments, guardDistance, confirmCount, staleLimit⟩, b)

structure SwapFields where
  route : Nat
  target : Nat
  force : Bool
deriving DecidableEq, Repr

/-- R55; a target of 255 is AUTO (R160). -/
def readSwap (b : List Byte) : Option SwapFields := whole do
  let (route, b) ← readField 1 b
  let (target, b) ← readField 1 b
  let (force, b) ← readYesNo b
  some (⟨route, target, force⟩, b)

/-- A request with an empty body (R154, R158). -/
def readNothing (b : List Byte) : Option Unit := whole (some ((), b))

/-- A tariff entry as a TARIFF_LOAD carries it, its values not yet checked. -/
structure RawTariff where
  permission : Nat
  rates : PerClass Nat
deriving DecidableEq, Repr

def readTariffEntry : Reader RawTariff := fun b => do
  let (permission, b) ← readField 1 b
  let (rates, b) ← readPerClass (readField 4) b
  some (⟨permission, rates⟩, b)

/-- R130. Of the bodies longer than step 3 of R149 allows, only that of the 64 entries which R130 requires has the form (DESIGN
CHOICE, log entry 4). -/
def readTariffLoad (b : List Byte) : Option (List RawTariff) :=
  if b.length ≤ Config.maxBody ∨ b.length = Config.tariffBody then whole (readList readTariffEntry b) else none

structure PolicyFields where
  route : Nat
  mask : LinkMask
  drainLimit : Option Nat
  probationTime : Option Nat
  settleTime : Option Nat
deriving DecidableEq, Repr

/-- R39. -/
def readPolicy (b : List Byte) : Option PolicyFields := whole do
  let (route, b) ← readField 1 b
  let (mask, b) ← readField 1 b
  let (drainLimit, b) ← readOptional (readField 1) b
  let (probationTime, b) ← readOptional (readField 1) b
  let (settleTime, b) ← readOptional (readField 2) b
  some (⟨route, BitVec.ofNat 8 mask, drainLimit, probationTime, settleTime⟩, b)

structure AccountOpenFields where
  account : Nat
  kind : Nat
  amount : Option Nat
  threshold : Option Nat
deriving DecidableEq, Repr

/-- R133. -/
def readAccountOpen (b : List Byte) : Option AccountOpenFields := whole do
  let (account, b) ← readField 2 b
  let (kind, b) ← readField 1 b
  let (amount, b) ← readOptional (readField 4) b
  let (threshold, b) ← readOptional (readField 4) b
  some (⟨account, kind, amount, threshold⟩, b)

structure CreditFields where
  account : Nat
  amount : Nat
  sequence : Nat
deriving DecidableEq, Repr

/-- R138. -/
def readCredit (b : List Byte) : Option CreditFields := whole do
  let (account, b) ← readField 2 b
  let (amount, b) ← readField 4 b
  let (sequence, b) ← readField 2 b
  some (⟨account, amount, sequence⟩, b)

structure AccountSetFields where
  account : Nat
  sequence : Nat
  threshold : Setting
  cap : Setting
deriving DecidableEq, Repr

/-- R139. -/
def readAccountSet (b : List Byte) : Option AccountSetFields := whole do
  let (account, b) ← readField 2 b
  let (sequence, b) ← readField 2 b
  let (threshold, b) ← readSetting 4 b
  let (cap, b) ← readSetting 4 b
  some (⟨account, sequence, threshold, cap⟩, b)

/-- R81: a handle and an optional expected digest. -/
def readBar (b : List Byte) : Option (Nat × Option (BitVec 64)) := whole do
  let (handle, b) ← readField 2 b
  let (digest, b) ← readOptional (readField 8) b
  some ((handle, digest.map (BitVec.ofNat 64)), b)

structure MeterSetupFields where
  interval : Option Nat
  byteLimit : Option Nat
  recordMark : Option Nat
deriving DecidableEq, Repr

/-- R114. -/
def readMeterSetup (b : List Byte) : Option MeterSetupFields := whole do
  let (interval, b) ← readOptional (readField 2) b
  let (byteLimit, b) ← readOptional (readField 2) b
  let (recordMark, b) ← readOptional (readField 2) b
  some (⟨interval, byteLimit, recordMark⟩, b)

/-- How a SESSION_READ names its session (R89). -/
inductive SessionName where
  | handle (h : Nat)
  | digest (d : BitVec 64)
deriving DecidableEq, Repr

/-- R89: a byte 0 and a handle, or a byte 1 and a digest (DESIGN CHOICE, log entry 14). -/
def readSessionName (b : List Byte) : Option SessionName := whole do
  match readField 1 b with
  | some (0, b) => (readField 2 b).map fun x => (SessionName.handle x.1, x.2)
  | some (1, b) => (readField 8 b).map fun x => (SessionName.digest (BitVec.ofNat 64 x.1), x.2)
  | _ => none

/-- R17: an optional segment index. -/
def readZoneRead (b : List Byte) : Option (Option Nat) := whole (readOptional (readField 1) b)

structure NoticeSetupFields where
  pacing : Option Nat
  entries : List (Nat × Nat)
deriving DecidableEq, Repr

/-- R164: entries are a kind code and a level. -/
def readNoticeSetup (b : List Byte) : Option NoticeSetupFields := whole do
  let (pacing, b) ← readOptional (readField 2) b
  let (entries, b) ← readList (readPair 1 1) b
  some (⟨pacing, entries⟩, b)

/-! ### Which request a message is (R149 step 1, R152) -/

/-- The request rows of the table: one for each request, LINK_POWER, LINK_STATUS and SWAP_ROUTE being two rows each, and one
for a message that names no request. -/
inductive Request where
  | invalid
  | attach | detach | bearerAdd | bearerDrop | resume
  | linkSetup | linkTune | linkPowerOn | linkPowerOff | linkStatusUp | linkStatusDown | linkReport
  | position | zoneLoad | swapRoute | swapRouteForce | storeSetup | clockSet | start
  | tariffLoad | routePolicy | accountOpen | accountClose | accountCredit | accountSet | sessionBar | sessionUnbar
  | recordTake | meterSetup
  | sessionRead | accountRead | routeRead | linkRead | zoneRead | setLevel | noticeSetup | countersRead | portReset
deriving DecidableEq, Repr

/-- The row of a request code (R152). A LINK_POWER, LINK_STATUS or SWAP_ROUTE body that says OFF, DOWN or FORCE is the
second of its two rows; any other body, a broken one among them, is the first. -/
def requestOfCode (code : Nat) (body : List Byte) : Request :=
  match code with
  | 1 => .attach
  | 2 => .detach
  | 3 => .bearerAdd
  | 4 => .bearerDrop
  | 5 => .resume
  | 16 => .linkSetup
  | 17 => .linkTune
  | 18 => if (readLinkName body).map (·.2) = some 1 then .linkPowerOff else .linkPowerOn
  | 19 => if (readLinkName body).map (·.2) = some 1 then .linkStatusDown else .linkStatusUp
  | 20 => .linkReport
  | 21 => .position
  | 22 => .zoneLoad
  | 23 => if (readSwap body).map (·.force) = some true then .swapRouteForce else .swapRoute
  | 24 => .storeSetup
  | 25 => .clockSet
  | 26 => .start
  | 32 => .tariffLoad
  | 33 => .routePolicy
  | 34 => .accountOpen
  | 35 => .accountClose
  | 36 => .accountCredit
  | 37 => .accountSet
  | 38 => .sessionBar
  | 39 => .sessionUnbar
  | 40 => .recordTake
  | 41 => .meterSetup
  | 48 => .sessionRead
  | 49 => .accountRead
  | 50 => .routeRead
  | 51 => .linkRead
  | 52 => .zoneRead
  | 53 => .setLevel
  | 54 => .noticeSetup
  | 55 => .countersRead
  | 56 => .portReset
  | _ => .invalid

/-- The row of a message: it names no request unless its type is REQUEST and its code is one of R152's. -/
def requestOf (m : Message) : Request :=
  if m.mtype = 1 then requestOfCode m.code.toNat m.body else .invalid

/-- The ports a request may be sent on (R152). -/
def permitted : Request → Port → Bool
  | .invalid, _ => true
  | .attach, p | .detach, p | .bearerAdd, p | .bearerDrop, p | .resume, p => p = .rp
  | .linkSetup, p | .linkTune, p | .linkPowerOn, p | .linkPowerOff, p | .linkStatusUp, p | .linkStatusDown, p
  | .linkReport, p | .position, p | .zoneLoad, p | .swapRoute, p | .swapRouteForce, p | .storeSetup, p
  | .clockSet, p => p = .lp
  | .start, p => p = .lp || p = .pp
  | .tariffLoad, p | .routePolicy, p | .accountOpen, p | .accountClose, p | .accountCredit, p | .accountSet, p
  | .sessionBar, p | .sessionUnbar, p | .recordTake, p | .meterSetup, p => p = .pp
  | .sessionRead, _ | .accountRead, _ | .routeRead, _ | .linkRead, _ | .zoneRead, _ | .setLevel, _ | .noticeSetup, _
  | .countersRead, _ | .portReset, _ => true

/-- The longest body a request may have (R149 step 3). The 64 entries of a TARIFF_LOAD need more, and `readTariffLoad` takes no
other body above `Config.maxBody` (DESIGN CHOICE, log entry 4). -/
def bodyLimit : Request → Nat
  | .tariffLoad => Config.tariffBody
  | _ => Config.maxBody

end Sys2Proof.Machine
end

