-- ==== Sys2Proof/Machine/Flags.lean ====
section
/-! DEFINITION. The flags, outputs and conditions the part computes: fitness and the degraded flag of a link, hold latches
and hold outputs, the FUNDS and LOW flags of an account, and the five notice conditions. -/

namespace Sys2Proof.Machine

/-! ### Links -/

/-- A link is ready while it is STANDBY or ACTIVE (02 section 3.3). -/
def LinkState.ready : LinkState → Bool
  | .standby | .active => true
  | .unconfigured | .off | .warming | .retiring | .failed => false

def State.ready (s : State) (k : LinkId) : Bool := (s.link k).state.ready

/-- `Q' = floor((7 Q + M + 4) / 8)`, with M above 1023 taken as 1023 (R33). -/
def smoothed (q m : Nat) : Nat := (7 * q + min m 1023 + 4) / 8

/-- Fitness judged with hysteresis (R34): a fit link becomes unfit when Q < Qu, an unfit one fit when Q ≥ Qu + Hq. -/
def judgedFit (fit : Bool) (q qu hq : Nat) : Bool := if fit then decide (qu ≤ q) else decide (qu + hq ≤ q)

/-- The degraded flag: yes exactly when Q < Qd (R35). -/
def judgedDegraded (q qd : Nat) : Bool := decide (q < qd)

/-- The link with its degraded flag recomputed and its fitness re-judged (R21, R33). -/
def Link.rejudged (l : Link) : Link :=
  { l with degraded := judgedDegraded l.quality l.qd, fit := judgedFit l.fit l.quality l.qu l.hq }

/-- The admission floor: the degrade floor while degraded, and 0 while not (R35). -/
def Link.admissionFloor (l : Link) : Nat := if l.degraded then l.floor else 0

/-! ### Hold latches and hold outputs (R63, R95, R96) -/

/-- The latch after an admission that raised the occupancy. -/
def latchRaised (m : Marks) (before after : Nat) (latch : Bool) : Bool :=
  if before < m.high ∧ m.high ≤ after then true else latch

/-- The latch after a departure that lowered the occupancy. -/
def latchLowered (m : Marks) (before after : Nat) (latch : Bool) : Bool :=
  if m.low < before ∧ after ≤ m.low then false else latch

/-- The hold output of a route and class: the bound link's latch, and on while the route is DARK. -/
def State.holdOutput (s : State) (r : RouteId) (c : TrafficClass) : Bool :=
  match (s.route r).bound with
  | some k => (s.linkQueues k).latch.get c
  | none => true

/-! ### Accounts (R137) -/

def Account.fundsLaw (x : Account) : Bool :=
  match x.kind with
  | some .prepaid => decide (x.balance = 0)
  | some .postpaid =>
    match x.cap with
    | some cap => decide (cap ≤ x.spend)
    | none => false
  | some .crew | none => false

def Account.lowLaw (x : Account) : Bool :=
  match x.kind, x.threshold with
  | some .prepaid, some t => decide (x.balance < t)
  | _, _ => false

/-! ### Conditions (R16, R64, R145) -/

/-- A route that is DARK in SERVING (R64). -/
def State.dark (s : State) (r : RouteId) : Bool := decide (s.service = .serving) && (s.route r).bound.isNone

/-- Some account's unrecorded charge is above 0: its carry waits for the queue (R144). -/
def State.carryWaits (s : State) : Bool := s.accounts.entries.any fun e => decide (0 < e.2.carry.charge)

/-- Whether a CONDITION kind's condition holds. An EVENT kind has none. -/
def State.holds (s : State) : NoticeKind → Bool
  | .coverageOff => s.silent
  | .positionStale =>
    match s.zone.tracker with
    | .stale _ => true
    | .unlocated | .located _ _ => false
  | .routeDark => allRoutes.any s.dark
  | .recordsWaiting => decide (s.meter.recordMark ≤ s.crq.length)
  | .recordBacklog => decide (Config.crqCapacity ≤ s.crq.length) && (!s.sealList.isEmpty || s.carryWaits)
  | .peerRestart | .sessionRestricted | .sessionReleased | .linkFailed | .swapRollback | .zoneCrossed | .linkReady
  | .swapDone | .drainDiscard | .fundsOut | .unrecorded | .lowBalance => false

/-- The subject of a CONDITION kind's occurrence (Table 10-1, R168): the current segment's index for COVERAGE_OFF and
POSITION_STALE, the lowest DARK route for ROUTE_DARK, 65535 for a kind with no subject. -/
def State.conditionSubject (s : State) : NoticeKind → Nat
  | .coverageOff | .positionStale => s.segmentIndex.getD 65535
  | .routeDark => ((allRoutes.find? s.dark).map (·.val)).getD 65535
  | _ => 65535

end Sys2Proof.Machine
end

