-- ==== Sys2Proof/Machine/CauseOps.lean ====
section
/-! DEFINITION. The restriction causes of sessions (04 section 5.6): adding and removing one, handing an account's FUNDS
flag on, evaluating ROAMING. -/

namespace Sys2Proof.Machine

inductive Cause where
  | funds | barred | roaming
deriving DecidableEq, Repr

def Causes.has (x : Causes) : Cause → Bool
  | .funds => x.funds
  | .barred => x.barred
  | .roaming => x.roaming

def Causes.put (x : Causes) (c : Cause) (v : Bool) : Causes :=
  match c with
  | .funds => { x with funds := v }
  | .barred => { x with barred := v }
  | .roaming => { x with roaming := v }

/-- The cause set is empty: the session is not restricted (R79). -/
def Causes.isEmpty (x : Causes) : Bool := !x.funds && !x.barred && !x.roaming

def Phase.isClosing : Phase → Bool
  | .closing _ => true
  | .active | .parked _ => false

/-- Add a cause to a session. A cause it did not hold raises SESSION_RESTRICTED while it is ACTIVE or PARKED (R79). -/
def addCause (h : Nat) (c : Cause) (s : State) : State :=
  match s.session h with
  | none => s
  | some x =>
    if x.causes.has c then s
    else
      let s := s.setSession h (some { x with causes := x.causes.put c true })
      if x.phase.isClosing then s else s.raiseRestricted h

/-- Remove a cause from a session; no notice is raised (R79). -/
def removeCause (h : Nat) (c : Cause) (s : State) : State :=
  s.modifySession h fun x => { x with causes := x.causes.put c false }

/-- Add or remove a cause. -/
def setCause (h : Nat) (c : Cause) (v : Bool) (s : State) : State := if v then addCause h c s else removeCause h c s

/-- An account's FUNDS flag has changed: every non-FREE session that names the account gains or loses FUNDS (R80). -/
def handFunds (a : Nat) (funds : Bool) (s : State) : State :=
  s.sessions.keys.foldl (init := s) fun s h =>
    match s.session h with
    | some x => if x.account = a then setCause h .funds funds s else s
    | none => s

/-- The permission holds a session to signalling: ROAMING is set on SIGNALLING_ONLY and DENY (R82). -/
def Permission.restricts : Permission → Bool
  | .allow => false
  | .signallingOnly | .deny => true

/-- Evaluate a session's ROAMING cause against the current tariff zone (R82). -/
def evaluateRoaming (h : Nat) (s : State) : State :=
  match s.session h with
  | some x => setCause h .roaming (s.currentEntry x.group).permission.restricts s
  | none => s

/-- Evaluate ROAMING for every non-FREE session (R83, R84). -/
def evaluateAllRoaming (s : State) : State := s.sessions.keys.foldl (fun s h => evaluateRoaming h s) s

end Sys2Proof.Machine
end

