-- ==== Sys2Proof/Machine/AccountOps.lean ====
section
/-! DEFINITION. What the account unit does for the rest of the part: applying a charge, judging FUNDS and LOW, carrying
unrecorded use, building an UNRECORDED record (07 sections 8.3 to 8.5). -/

namespace Sys2Proof.Machine

/-- A counter raised to at most its ceiling. -/
def saturated (ceiling v : Nat) : Nat := min ceiling v

/-- Judge FUNDS and LOW again (R137). A change of FUNDS is handed to the sessions; FUNDS_OUT and LOW_BALANCE are raised for
a flag that passes from clear to set, when `notices` says that a charge or an ACCOUNT_SET did it. -/
def judgeFlags (notices : Bool) (a : Nat) (s : State) : State :=
  let x := s.account a
  let s := s.setAccount a { x with funds := x.fundsLaw, low := x.lowLaw }
  let s := if x.fundsLaw = x.funds then s else handFunds a x.fundsLaw s
  let s := if notices && x.fundsLaw && !x.funds then s.raise .pp .fundsOut a else s
  if notices && x.lowLaw && !x.low then s.raise .pp .lowBalance a else s

/-- The rated total raised by a charge, held at its ceiling with CLIPPED (R135 step 1). -/
def Account.rateUp (x : Account) (c : Nat) : Account :=
  { x with
    rated := saturated Config.ceiling48 (x.rated + c)
    clipped := x.clipped || decide (Config.ceiling48 < x.rated + c) }

/-- The charge taken by kind (R135 step 2). -/
def Account.takeCharge (x : Account) (c : Nat) : Account :=
  match x.kind with
  | some .prepaid =>
    if c ≤ x.balance then { x with balance := x.balance - c }
    else
      let short := x.shortfall + (c - x.balance)
      { x with
        balance := 0
        shortfall := saturated Config.ceiling32 short
        clipped := x.clipped || decide (Config.ceiling32 < short) }
  | some .postpaid =>
    { x with
      spend := saturated Config.ceiling32 (x.spend + c)
      clipped := x.clipped || decide (Config.ceiling32 < x.spend + c) }
  | some .crew | none => x

/-- Apply a charge to an account (R135); a charge of 0 is not handed on. -/
def applyCharge (a c : Nat) (s : State) : State :=
  if c = 0 then s else judgeFlags true a (s.modifyAccount a fun x => (x.rateUp c).takeCharge c)

/-- The carry raised by an unrecorded use at a stamp (R136). -/
def Account.carryUse (x : Account) (d : Direction) (length charge : Nat) (at' : Stamp) : Account :=
  let up := x.carry.bytesUp + (match d with | .up => length | .down => 0)
  let down := x.carry.bytesDown + (match d with | .up => 0 | .down => length)
  let sum := x.carry.charge + charge
  let passed := decide (Config.ceiling32 < up) || decide (Config.ceiling32 < down) || decide (Config.ceiling32 < sum)
  { x with
    carry :=
      { bytesUp := saturated Config.ceiling32 up
        bytesDown := saturated Config.ceiling32 down
        charge := saturated Config.ceiling32 sum
        clipped := x.carry.clipped || passed
        first := some (x.carry.first.getD at')
        last := some at' }
    clipped := x.clipped || passed
    rated := if Config.ceiling32 < sum then Config.ceiling48 else x.rated }

/-- An unrecorded use (R121, R136): the charge is applied, the carry gathers it, UNRECORDED is raised. -/
def unrecordedUse (a : Nat) (d : Direction) (length charge : Nat) (s : State) : State :=
  let s := applyCharge a charge s
  let s := s.modifyAccount a fun x => x.carryUse d length charge s.stamp
  s.raise .pp .unrecorded a

/-- The UNRECORDED record of an account's carry (R141). -/
def unrecordedRecord (a : Nat) (c : Carry) : ChargeRecord :=
  let unset (t : Option Stamp) : Bool := match t with | some t => !t.isSet | none => false
  { kind := 2, reason := 0, cls := 255, zone := 255, group := 255, clipped := c.clipped,
    clockUnset := unset c.first || unset c.last, session := 65535, account := a, digest := 0,
    openTime := (c.first.map (·.seconds)).getD 0, closeTime := (c.last.map (·.seconds)).getD 0,
    bytesUp := c.bytesUp, bytesDown := c.bytesDown, charge := c.charge }

/-- A delivered total raised by a record's charge, held at its ceiling with CLIPPED (R142 step 2). -/
def Account.deliver (x : Account) (c : Nat) : Account :=
  { x with
    delivered := saturated Config.ceiling48 (x.delivered + c)
    clipped := x.clipped || decide (Config.ceiling48 < x.delivered + c) }

/-- The number of non-FREE sessions that name an account (R140). -/
def State.sessionsOf (s : State) (a : Nat) : Nat := s.sessions.entries.countP fun e => e.2.account = a

/-- The account's records standing in the charging record queue (R134, R140). -/
def State.recordsOf (s : State) (a : Nat) : List ChargeRecord := s.crq.filter fun r => r.account = a

end Sys2Proof.Machine
end

