-- ==== Sys2Proof/Machine/MeterOps.lean ====
section
/-! DEFINITION. The meter: finding, opening, rating and closing charging contexts, direct rating (06), and the charging
record queue's admission arbiter (R144). -/

namespace Sys2Proof.Machine

/-- The OPEN context in a slot, with its interval deadline. -/
def State.openContext (s : State) (i : Nat) : Option (Context × Nat) :=
  match s.slot i with
  | some (.opened x d) => some (x, d)
  | some (.sealed _ _ _ _) | none => none

/-- The session of a slot's context. -/
def Slot.session : Slot → Nat
  | .opened x _ => x.session
  | .sealed x _ _ _ => x.session

def Slot.isOpen : Slot → Bool
  | .opened _ _ => true
  | .sealed _ _ _ _ => false

/-- The slot of the OPEN context of a session and class (R116). -/
def State.findOpen (s : State) (h : Nat) (c : TrafficClass) : Option Nat :=
  s.openList.find? fun i =>
    match s.openContext i with
    | some (x, _) => decide (x.session = h ∧ x.cls = c)
    | none => false

/-- The lowest-numbered FREE slot. -/
def State.freeSlot (s : State) : Option Nat := (List.range Config.slotCount).find? fun i => (s.slot i).isNone

/-- The number of a session's contexts that are OPEN, or SEALED (R89). -/
def State.openContexts (s : State) (h : Nat) : Nat :=
  s.slots.entries.countP fun e => e.2.session = h && e.2.isOpen
def State.sealedContexts (s : State) (h : Nat) : Nat :=
  s.slots.entries.countP fun e => e.2.session = h && !e.2.isOpen

/-- A close reason's value in a charging record (08 section 9.7.3). -/
def CloseReason.number : CloseReason → Nat
  | .interval => 1 | .byteLimit => 2 | .zone => 3 | .tariff => 4 | .park => 5 | .detach => 6 | .expiry => 7 | .evict => 8

/-- The USAGE record of a closing context (R123); the digest is the session's at the close. -/
def usageRecord (x : Context) (reason : CloseReason) (closeTime : Stamp) (digest : BitVec 64) : ChargeRecord :=
  { kind := 1, reason := reason.number, cls := x.cls.number, zone := x.zone, group := x.group.val, clipped := x.clipped,
    clockUnset := !x.openTime.isSet || !closeTime.isSet, session := x.session, account := x.account, digest := digest,
    openTime := x.openTime.seconds, closeTime := closeTime.seconds, bytesUp := x.bytesUp, bytesDown := x.bytesDown,
    charge := x.charge }

/-- A context's charge raised by whole units, saturating with clipped (R119). -/
def Context.earn (x : Context) (units : Nat) : Context :=
  { x with
    charge := saturated Config.ceiling32 (x.charge + units)
    clipped := x.clipped || decide (Config.ceiling32 < x.charge + units) }

/-- The rounding unit a closing context earns (R122 step 1). -/
def Context.roundingUnit (x : Context) : Nat := if 524288 ≤ x.residue then 1 else 0

/-- Offer a record of a context that has left the open list to the charging record queue: append it and free the slot, or
seal the context (R122 step 4, R143). -/
def handOver (i : Nat) (x : Context) (reason : CloseReason) (record : ChargeRecord) (s : State) : State :=
  if s.crq.length < Config.crqCapacity then { s.setSlot i none with crq := s.crq ++ [record] }
  else { s.setSlot i (some (.sealed x reason s.stamp record)) with sealList := s.sealList ++ [i] }

/-- Close the OPEN context in a slot (R122): rounding, stamping, record, hand-over. -/
def closeContext (reason : CloseReason) (i : Nat) (s : State) : State :=
  match s.openContext i with
  | none => s
  | some (x, _) =>
    let rounded := { x.earn x.roundingUnit with residue := 0 }
    let s := applyCharge x.account x.roundingUnit s
    let s := { s with openList := s.openList.filter (decide <| · ≠ i) }
    let digest := ((s.session x.session).map (·.digest)).getD 0
    handOver i rounded reason (usageRecord rounded reason s.stamp digest) s

/-- The rate of a metered frame (R115): the current tariff entry's rate for the class, and 0 for a CREW account. -/
def State.frameRate (s : State) (x : Session) (c : TrafficClass) : Nat :=
  if (s.account x.account).kind = some .crew then 0 else (s.currentEntry x.group).rates.get c

/-- Open a context in a slot (R116). -/
def openSlot (i h : Nat) (x : Session) (c : TrafficClass) (s : State) : State :=
  let context : Context :=
    { session := h, cls := c, zone := (s.currentZone.map (·.val)).getD 8, group := x.group, account := x.account,
      rate := s.frameRate x c, openTime := s.stamp, bytesUp := 0, bytesDown := 0, charge := 0, residue := 0,
      clipped := false }
  { s.setSlot i (some (.opened context (s.after s.meter.interval))) with openList := s.openList ++ [i] }

/-- A context with a frame's bytes added, its residue carried and the increment earned (R118 steps 1 to 4). -/
def Context.rateFrame (x : Context) (d : Direction) (length : Nat) : Context × Nat :=
  let p := length * x.rate + x.residue
  let increment := p / Config.unitsPerCharge
  let x := match d with
    | .up => { x with bytesUp := x.bytesUp + length }
    | .down => { x with bytesDown := x.bytesDown + length }
  ({ x.earn increment with residue := p % Config.unitsPerCharge }, increment)

/-- Rate a frame in the OPEN context of a slot (R118), then check the byte limit (R120). -/
def rateInSlot (i : Nat) (d : Direction) (length : Nat) (s : State) : State :=
  match s.openContext i with
  | none => s
  | some (x, deadline) =>
    let (rated, increment) := x.rateFrame d length
    let s := s.setSlot i (some (.opened rated deadline))
    let s := applyCharge rated.account increment s
    if s.meter.byteLimit * 1048576 ≤ rated.bytesUp + rated.bytesDown then closeContext .byteLimit i s else s

/-- The charge of a directly rated frame (R121): its exact worth rounded to the nearest unit, halves up. -/
def directCharge (length rate : Nat) : Nat := (length * rate + 524288) / Config.unitsPerCharge

/-- Rate a frame for which no context can be had (R121). -/
def rateDirectly (x : Session) (c : TrafficClass) (d : Direction) (length : Nat) (s : State) : State :=
  unrecordedUse x.account d length (directCharge length (s.frameRate x c)) s

/-- Open a context in the lowest FREE slot and rate the frame in it, or rate the frame directly where none is FREE. -/
def openAndRate (h : Nat) (x : Session) (c : TrafficClass) (d : Direction) (length : Nat) (s : State) : State :=
  match s.freeSlot with
  | some i => rateInSlot i d length (openSlot i h x c s)
  | none => rateDirectly x c d length s

/-- The meter takes a frame that is sent or delivered (R115 to R121). -/
def meterFrame (h : Nat) (c : TrafficClass) (d : Direction) (length : Nat) (s : State) : State :=
  match s.session h with
  | none => s
  | some x =>
    match s.findOpen h c with
    | some i => rateInSlot i d length s
    | none =>
      match s.freeSlot, s.openList with
      | none, oldest :: _ => openAndRate h x c d length (closeContext .evict oldest s)
      | _, _ => openAndRate h x c d length s

/-- Close a list of slots' OPEN contexts in order, each for its own reason. -/
def closeAll (which : List (Nat × CloseReason)) (s : State) : State :=
  which.foldl (fun s e => closeContext e.2 e.1 s) s

/-- Close a session's OPEN contexts in the fixed class order (R77, R127). -/
def closeSessionContexts (h : Nat) (reason : CloseReason) (s : State) : State :=
  allClasses.foldl (init := s) fun s c =>
    match s.findOpen h c with
    | some i => closeContext reason i s
    | none => s

/-- The account whose carry the arbiter would take next: the lowest with unrecorded charge above 0 (R144). -/
def State.nextCarry (s : State) : Option Nat :=
  (s.accounts.entries.find? fun e => decide (0 < e.2.carry.charge)).map (·.1)

/-- One admission of the arbiter (R144): the oldest SEALED context, else the lowest waiting carry. Nothing when the queue
is full or nothing waits. -/
def admitOne (s : State) : State :=
  if s.crq.length < Config.crqCapacity then
    match s.sealList with
    | i :: rest =>
      match s.slot i with
      | some (.sealed _ _ _ record) => { s.setSlot i none with crq := s.crq ++ [record], sealList := rest }
      | some (.opened _ _) | none => { s with sealList := rest }
    | [] =>
      match s.nextCarry with
      | some a =>
        let record := unrecordedRecord a (s.account a).carry
        { s.modifyAccount a fun x => { x with carry := .clear } with crq := s.crq ++ [record] }
      | none => s
  else s

/-- The arbiter fills the room there is, at most `n` records (R144). -/
def admitRecords : Nat → State → State
  | 0, s => s
  | n + 1, s => admitRecords n (admitOne s)

end Sys2Proof.Machine
end

