-- ==== Sys2Proof/Machine/Selection.lean ====
section
/-! DEFINITION. How a route chooses a link: the candidate test, routine and forced selection, the settle evaluation
(03 sections 4.4 and 4.8.1). -/

namespace Sys2Proof.Machine

/-- The link state a candidate may be in (R41). -/
def LinkState.selectable : LinkState → Bool
  | .off | .warming | .standby | .active => true
  | .unconfigured | .retiring | .failed => false

/-- The current segment's usable mask names the link. -/
def State.usable (s : State) (k : LinkId) : Bool :=
  match s.segment with
  | some g => inMask g.usable k
  | none => false

/-- The current segment's preference list. -/
def State.prefs (s : State) : List LinkId :=
  match s.segment with
  | some g => g.prefs
  | none => []

/-- The route's permitted mask names the link. -/
def State.permits (s : State) (r : RouteId) (k : LinkId) : Bool := inMask (s.route r).permitted k

/-- The candidate test of a link for a route, with at most one link excluded (R41). -/
def State.candidate (s : State) (r : RouteId) (excluded : Option LinkId) (k : LinkId) : Bool :=
  s.permits r k && s.usable k && decide (excluded ≠ some k) && (s.link k).state.selectable && (s.link k).fit

/-- Routine selection (R42): the first link of the preference list that passes. -/
def State.routineSelection (s : State) (r : RouteId) (excluded : Option LinkId) : Option LinkId :=
  s.prefs.find? (s.candidate r excluded)

/-- Forced selection (R43): the first that passes and is ready, else the first that passes. -/
def State.forcedSelection (s : State) (r : RouteId) (excluded : Option LinkId) : Option LinkId :=
  match s.prefs.find? fun k => s.candidate r excluded k && s.ready k with
  | some k => some k
  | none => s.prefs.find? (s.candidate r excluded)

/-- The preferred candidate of a route bound to `b` (R60): the first link before `b` in the list that passes and is
ready. -/
def State.preferred (s : State) (r : RouteId) (b : LinkId) : Option LinkId :=
  (s.prefs.takeWhile (decide <| · ≠ b)).find? fun k => s.candidate r none k && s.ready k

/-- The settle evaluation (R60) of a route; a route that is not IDLE and bound holds no settle candidate. -/
def settleEvaluate (r : RouteId) (s : State) : State :=
  let x := s.route r
  match x.swap, x.bound with
  | .idle, some b =>
    match s.preferred r b with
    | none => s.setRoute r { x with settle := none }
    | some p =>
      if x.settle.map (·.1) = some p then s
      else s.setRoute r { x with settle := some (p, s.after x.settleTime) }
  | _, _ => s.setRoute r { x with settle := none }

/-- The settle evaluation of every route that is IDLE and bound (R60), in SERVING. -/
def settleAll (s : State) : State :=
  match s.service with
  | .configuring => s
  | .serving =>
    allRoutes.foldl (init := s) fun s r =>
      if (s.route r).swap = .idle ∧ (s.route r).bound.isSome then settleEvaluate r s else s

end Sys2Proof.Machine
end

