-- ==== Sys2Proof/Machine/FrameOps.lean ====
section
/-! DEFINITION. Frames joining and leaving the queues, with the latch that follows the occupancy, and the states of a link
that follow its use (02 section 3.3.5, 05 sections 6.3 and 6.7). -/

namespace Sys2Proof.Machine

/-! ### The states of a link that its use moves it between -/

/-- A link enters STANDBY (R32): linger is set afresh, or absent when it is 0. -/
def enterStandby (k : LinkId) (s : State) : State :=
  s.modifyLink k fun l =>
    { l with
      state := .standby
      warmUpDeadline := none
      lingerDeadline := if l.linger = 0 then none else some (s.after l.linger) }

/-- A link enters OFF (R23, R24, R32): the enable line goes off, both deadlines become absent. -/
def enterOff (k : LinkId) (s : State) : State :=
  s.modifyLink k fun l => { l with state := .off, enable := false, warmUpDeadline := none, lingerDeadline := none }

/-- Judge a link that a route may just have left: an ACTIVE link with neither a bound route nor a frame becomes STANDBY
(R31). A RETIRING link is judged when its routes have all been forced off it, and as its frames leave (log entry 22). -/
def judgeUnbound (k : LinkId) (s : State) : State :=
  if s.queuedOn k = 0 ∧ s.boundRoutes k = 0 ∧ (s.link k).state = .active then enterStandby k s else s

/-- Judge a link that a frame may just have left: an ACTIVE link with neither a bound route nor a frame becomes STANDBY
(R31), a RETIRING one OFF (R24; log entry 22), which is handed on to the settle evaluation (R36, R60). -/
def judgeIdle (k : LinkId) (s : State) : State :=
  if s.queuedOn k = 0 ∧ s.boundRoutes k = 0 then
    match (s.link k).state with
    | .active => enterStandby k s
    | .retiring => settleAll (enterOff k s)
    | .unconfigured | .off | .warming | .standby | .failed => s
  else s

/-! ### Queues -/

/-- An uplink frame joins the tail of its class queue on a link; the latch is evaluated (R95, R98). -/
def joinLink (k : LinkId) (f : Frame) (s : State) : State :=
  let q := s.linkQueues k
  let old := q.frames.get f.cls
  let new := old ++ [f]
  let latch := latchRaised ((s.link k).marks.get f.cls) (occupancy old) (occupancy new) (q.latch.get f.cls)
  s.setLinkQueues k { frames := q.frames.set f.cls new, latch := q.latch.set f.cls latch }

/-- A class queue of a link is left by frames, the rest keeping their order; the latch is evaluated (R93, R95). -/
def leaveLink (k : LinkId) (c : TrafficClass) (new : List Frame) (s : State) : State :=
  let q := s.linkQueues k
  let old := q.frames.get c
  let latch := latchLowered ((s.link k).marks.get c) (occupancy old) (occupancy new) (q.latch.get c)
  s.setLinkQueues k { frames := q.frames.set c new, latch := q.latch.set c latch }

/-- Discard the frames of a link's class queue that meet a test, counting each (R107, R109). -/
def discardClass (k : LinkId) (gone : Frame → Bool) (counter : TrafficClass → Counter) (c : TrafficClass) (s : State) :
    State :=
  let q := (s.linkQueues k).frames.get c
  let n := q.countP gone
  if n = 0 then s else (leaveLink k c (q.filter (!gone ·)) s).count (counter c) n

/-- Discard the frames of a link's four class queues that meet a test. -/
def discardOnLink (k : LinkId) (gone : Frame → Bool) (counter : TrafficClass → Counter) (s : State) : State :=
  allClasses.foldl (fun s c => discardClass k gone counter c s) s

/-- Discard a route's frames on a link as DRAIN (R107), and judge the link (R105). -/
def drainDiscard (r : RouteId) (d : LinkId) (s : State) : State :=
  judgeIdle d (discardOnLink d (fun f => f.route = some r) (.drain d) s)

/-- Discard every frame on a link as FAILURE_LOSS and clear its latches (R30, R106). -/
def failureDiscard (k : LinkId) (s : State) : State :=
  let s := discardOnLink k (fun _ => true) (.failureLoss k) s
  s.setLinkQueues k { s.linkQueues k with latch := .all false }

/-- Discard a session's frames from the pool (R108), counting each under one counter. -/
def discardPool (h : Nat) (counter : Counter) (s : State) : State :=
  let mine (f : Frame) : Bool := decide (f.session = h)
  let n := countFrames s.pool mine
  if n = 0 then s
  else
    let left (q : List Frame) : List Frame := q.filter (!mine ·)
    { s with pool := ⟨left s.pool.c0, left s.pool.c1, left s.pool.c2, left s.pool.c3⟩ }.count counter n

/-- The consequences of an uplink frame's leaving by sending or as AGED (R105): its route's drain on the link may have
emptied (R49), and the link may be idle (R24, R31). -/
def uplinkLeft (k : LinkId) (route : Option RouteId) (s : State) : State :=
  let s := match route with
    | some r =>
      if (s.route r).draining.map (·.1) = some k ∧ s.routeFrames r k = 0 then
        s.modifyRoute r fun x => { x with draining := none }
      else s
    | none => s
  judgeIdle k s

end Sys2Proof.Machine
end

