-- ==== Sys2Proof/Machine/RouteOps.lean ====
section
/-! DEFINITION. The swap machine of a route (03 sections 4.5 to 4.9): release, cutover, starting a swap, forced causes,
rollback, a lost target, reselection, and what a route does on a crossing and on a policy change.

Starting a swap to an OFF target powers it on, and a link that enters WARMING may thereby become unfit (R25), which
loses the target within the same event (R34, R47) and may start another swap. Each round takes one OFF link to WARMING,
so there are at most as many rounds as links; `startSwap` is built up round by round (log entry 20). -/

namespace Sys2Proof.Machine

/-! ### Links that are powered on (R25) -/

/-- The link record on entry to WARMING at a timer time (R25). -/
def Link.warmed (l : Link) (now : Nat) : Link :=
  { l with
    state := .warming
    enable := true
    quality := Config.qualitySeed
    degraded := judgedDegraded Config.qualitySeed l.qd
    fit := decide (l.qu ≤ Config.qualitySeed)
    warmUpDeadline := some (now + l.warmUp.getD 0 * 1000)
    lingerDeadline := none }

/-! ### Release and cutover -/

/-- A drain is superseded (R45): the route's frames still on `d` are discarded, and DRAIN_DISCARD is raised if there were
any. -/
def supersede (r : RouteId) (d : LinkId) (s : State) : State :=
  if s.routeFrames r d = 0 then s else (drainDiscard r d s).raise .lp .drainDiscard r.val

/-- A route releases a link its binding to which ends without the link's having failed (R45). -/
def release (r : RouteId) (k : LinkId) (s : State) : State :=
  if s.routeFrames r k = 0 then s
  else
    let s := match (s.route r).draining with
      | some (d, _) => if d = k then s else supersede r d s
      | none => s
    s.modifyRoute r fun x => { x with draining := some (k, s.after x.drainLimit) }

/-- A drain on a link ends with no discard, when the route binds to it again (R46 step 1, R51 step 1). -/
def endDrainOn (r : RouteId) (k : LinkId) (s : State) : State :=
  if (s.route r).draining.map (·.1) = some k then s.modifyRoute r fun x => { x with draining := none } else s

/-- A route is bound to a link; a STANDBY link becomes ACTIVE and its linger is cancelled (R31, R32, R46 step 4). -/
def occupy (k : LinkId) (s : State) : State :=
  if (s.link k).state = .standby then s.modifyLink k fun l => { l with state := .active, lingerDeadline := none } else s

/-- Release a route's former link and judge it (R45, R31). -/
def leaveBound (r : RouteId) (b : Option LinkId) (failed : Bool) (s : State) : State :=
  match b with
  | none => s
  | some k => judgeUnbound k (if failed then s else release r k s)

/-- Cutover of a route to a ready target (R46). -/
def cutover (r : RouteId) (kind : SwapKind) (t : LinkId) (s : State) : State :=
  let b := (s.route r).bound
  let s := endDrainOn r t s
  let s := match b with
    | some k => release r k s
    | none => s
  let s := s.modifyRoute r fun x =>
    { x with bound := some t, swap := .probation kind (s.after x.probationTime), settle := none }
  let s := occupy t s
  match b with
  | some k => judgeUnbound k s
  | none => s

/-! ### Starting a swap -/

/-- A swap is started (R44): at once to a ready target, else in WAKING, an OFF target being powered on. `onUnfit` is what
follows when the target becomes unfit on its entry to WARMING. -/
def beginSwap (onUnfit : LinkId → State → State) (r : RouteId) (kind : SwapKind) (t : LinkId) (s : State) : State :=
  let kind := if (s.route r).bound.isNone then .forced else kind
  let s := s.modifyRoute r fun x => { x with settle := none }
  if s.ready t then cutover r kind t s
  else
    let s := s.modifyRoute r fun x => { x with swap := .waking kind t }
    if (s.link t).state = .off then
      let s := s.modifyLink t (·.warmed s.now)
      if (s.link t).fit then s else onUnfit t s
    else s

/-- What starts a swap of a route, of a kind, to a target. -/
abbrev Starter := RouteId → SwapKind → LinkId → State → State

/-- The route is unbound and left IDLE and DARK, with no settle candidate (R50, R52). -/
def Route.unbound (x : Route) : Route := { x with bound := none, swap := .idle, settle := none }

/-- A forced selection for an IDLE and DARK route, and its answer (R50). Every forced selection clears reselect pending
(R59). -/
def selectForced (start : Starter) (r : RouteId) (excluded : Option LinkId) (s : State) : State :=
  let s := s.modifyRoute r fun x => { x with reselect := false }
  match s.forcedSelection r excluded with
  | some t => start r .forced t s
  | none => s

/-- A forced selection for a route that waits for a target, DARK (R47, R53): a result is swapped to; with none the swap
ends and the route is IDLE and DARK. -/
def reselectWaking (start : Starter) (r : RouteId) (excluded : Option LinkId) (s : State) : State :=
  let s := s.modifyRoute r fun x => { x with reselect := false }
  match s.forcedSelection r excluded with
  | some t => start r .forced t s
  | none => s.modifyRoute r fun x => { x with swap := .idle }

/-- A route that has come back to IDLE, still bound (R59): with reselect pending a routine selection is made, else, or
when that finds nothing new, the settle evaluation. -/
def backToIdle (start : Starter) (r : RouteId) (excluded : Option LinkId) (s : State) : State :=
  if (s.route r).reselect then
    let s := s.modifyRoute r fun x => { x with reselect := false }
    match s.routineSelection r excluded with
    | some t => if (s.route r).bound = some t then settleEvaluate r s else start r .routine t s
    | none => settleEvaluate r s
  else settleEvaluate r s

/-- The last good link a route in PROBATION on `b` rolls back to, where the test of R51 is met. -/
def State.rollbackTo (s : State) (r : RouteId) (b : LinkId) : Option LinkId :=
  match (s.route r).lastGood with
  | some g => if g ≠ b ∧ s.ready g = true ∧ s.candidate r none g = true then some g else none
  | none => none

/-- Rollback of a route from `b` to its last good link `g` (R51). -/
def rollback (start : Starter) (r : RouteId) (b g : LinkId) (failed : Bool) (s : State) : State :=
  let s := endDrainOn r g s
  let s := s.modifyRoute r fun x => { x with bound := some g, swap := .idle, settle := none }
  let s := occupy g s
  let s := leaveBound r (some b) failed s
  backToIdle start r none (s.raise .lp .swapRollback r.val)

/-- A forced cause strikes a route's bound link `b`, answered by the route's swap state (R50 to R53). -/
def strike (start : Starter) (r : RouteId) (b : LinkId) (failed : Bool) (s : State) : State :=
  match (s.route r).swap with
  | .idle => selectForced start r (some b) (leaveBound r (some b) failed (s.modifyRoute r Route.unbound))
  | .probation _ _ =>
    match s.rollbackTo r b with
    | some g => rollback start r b g failed s
    | none => selectForced start r (some b) (leaveBound r (some b) failed (s.modifyRoute r Route.unbound))
  | .waking _ t =>
    let s := s.modifyRoute r fun x => { x with bound := none, swap := .waking .forced t, settle := none }
    reselectWaking start r (some b) (leaveBound r (some b) failed s)

/-- A route in WAKING loses its target (R47). -/
def targetLost (start : Starter) (r : RouteId) (t : LinkId) (s : State) : State :=
  match (s.route r).swap with
  | .waking .routine _ => backToIdle start r (some t) (s.modifyRoute r fun x => { x with swap := .idle })
  | .waking .forced _ => reselectWaking start r (some t) s
  | .idle | .probation _ _ => s

/-- The route waits in WAKING for a link. -/
def Route.waitsFor (x : Route) (k : LinkId) : Bool :=
  match x.swap with
  | .waking _ t => t = k
  | .idle | .probation _ _ => false

/-- Every route answers a link's becoming unfit (R34): a forced cause against a route bound to it, a lost target for a
route waiting for it; then the settle evaluation (R60). -/
def answerUnfit (start : Starter) (k : LinkId) (s : State) : State :=
  settleAll <| allRoutes.foldl (init := s) fun s r =>
    if (s.route r).bound = some k then strike start r k false s
    else if (s.route r).waitsFor k then targetLost start r k s
    else s

/-- `startSwap` with at most `n` further rounds of links powered on and found unfit. -/
def startSwapRounds : Nat → Starter
  | 0 => beginSwap fun _ s => s
  | n + 1 => beginSwap (answerUnfit (startSwapRounds n))

/-- Start a swap of a route (R44). -/
def startSwap : Starter := startSwapRounds 6

/-! ### DARK routes (R62) -/

/-- A DARK route's reselection, with nothing excluded (R62). A route that is not DARK does nothing. -/
def reselectDark (r : RouteId) (s : State) : State :=
  match (s.route r).bound, (s.route r).swap with
  | none, .idle => selectForced startSwap r none s
  | none, .waking _ t =>
    let s := s.modifyRoute r fun x => { x with reselect := false }
    match s.forcedSelection r none with
    | some x => if x = t then s else startSwap r .forced x s
    | none => s
  | _, _ => s

/-- Every DARK route reselects (R62). -/
def reselectAllDark (s : State) : State := allRoutes.foldl (fun s r => reselectDark r s) s

/-! ### Crossings and policy changes -/

/-- A route marks reselect pending when a routine selection finds another link than the one it is on its way to (R58). -/
def markReselect (r : RouteId) (than : LinkId) (s : State) : State :=
  match s.routineSelection r none with
  | some t => if t = than then s else s.modifyRoute r fun x => { x with reselect := true }
  | none => s

/-- Strike a route's bound link, if it has one that is no longer `allowed`. -/
def strikeIfBarred (allowed : State → LinkId → Bool) (r : RouteId) (s : State) : State :=
  match (s.route r).bound with
  | some b => if allowed s b then s else strike startSwap r b false s
  | none => s

/-- The routine crossing cause (R58): a routine selection, a swap if it returns another link, then the settle evaluation
if the route is still IDLE and bound. -/
def routineCause (r : RouteId) (b : LinkId) (s : State) : State :=
  let s := match s.routineSelection r none with
    | some t => if t = b then s else startSwap r .routine t s
    | none => s
  if (s.route r).swap = .idle ∧ (s.route r).bound.isSome then settleEvaluate r s else s

/-- A route answers a crossing by its state (R58). -/
def answerCrossing (r : RouteId) (s : State) : State :=
  match (s.route r).bound, (s.route r).swap with
  | some b, .idle => if s.usable b then routineCause r b s else strike startSwap r b false s
  | none, .idle => reselectDark r s
  | some b, .waking _ t =>
    if s.usable t then
      if s.usable b then markReselect r t s else strike startSwap r b false s
    else strikeIfBarred State.usable r (targetLost startSwap r t s)
  | none, .waking _ t => if s.usable t then reselectDark r s else targetLost startSwap r t s
  | some b, .probation _ _ => if s.usable b then markReselect r b s else strike startSwap r b false s
  | none, .probation _ _ => s

/-- A route answers a change of its permitted mask by its state (R40). -/
def answerPolicy (r : RouteId) (s : State) : State :=
  match (s.route r).bound, (s.route r).swap with
  | some b, .idle => if s.permits r b then settleEvaluate r s else strike startSwap r b false s
  | none, .idle => reselectDark r s
  | some b, .waking _ t =>
    if s.permits r t then
      if s.permits r b then s else strike startSwap r b false s
    else strikeIfBarred (fun s k => s.permits r k) r (targetLost startSwap r t s)
  | none, .waking _ t => if s.permits r t then reselectDark r s else targetLost startSwap r t s
  | some b, .probation _ _ => if s.permits r b then s else strike startSwap r b false s
  | none, .probation _ _ => s

/-- A route answers a link's failure (R54), the link being FAILED and its queues empty. -/
def answerFailure (k : LinkId) (r : RouteId) (s : State) : State :=
  let s := endDrainOn r k s
  if (s.route r).bound = some k then strike startSwap r k true s
  else if (s.route r).waitsFor k then targetLost startSwap r k s
  else s

/-! ### What the link manager hands on (R36), in SERVING -/

/-- Run the route unit's answer in SERVING; in CONFIGURING "the route unit makes no selection and starts no swap" (R38). -/
def inServing (f : State → State) (s : State) : State :=
  match s.service with
  | .serving => f s
  | .configuring => s

/-- A link has become ready (R26): routes waiting for it cut over (R47), DARK routes reselect (R62), and the settle
evaluation is made (R60). -/
def toldReady (k : LinkId) : State → State :=
  inServing fun s =>
    let s := allRoutes.foldl (init := s) fun s r =>
      match (s.route r).swap with
      | .waking kind t => if t = k then cutover r kind k s else s
      | .idle | .probation _ _ => s
    settleAll (reselectAllDark s)

/-- A link's fitness has changed (R34). -/
def toldFitness (k : LinkId) : State → State :=
  inServing fun s =>
    if (s.link k).fit then settleAll (reselectAllDark s) else answerUnfit startSwap k s

/-- A link has gone OFF (R23, R32): routes waiting for it lose their target, and the settle evaluation is made. -/
def toldOff (k : LinkId) : State → State :=
  inServing fun s =>
    settleAll <| allRoutes.foldl (init := s) fun s r =>
      if (s.route r).waitsFor k then targetLost startSwap r k s else s

/-- A link has been retired (R24): every route bound to it is struck. -/
def toldRetired (k : LinkId) : State → State :=
  inServing fun s =>
    settleAll <| allRoutes.foldl (init := s) fun s r =>
      if (s.route r).bound = some k then strike startSwap r k false s else s

/-- A link has failed (R54). -/
def toldFailed (k : LinkId) : State → State :=
  inServing fun s => settleAll (allRoutes.foldl (fun s r => answerFailure k r s) s)

end Sys2Proof.Machine
end

