-- ==== Sys2Proof/Machine/LinkOps.lean ====
section
/-! DEFINITION. The link manager's moves (02 sections 3.3 and 3.4), each with what it hands on to the route unit and the
frame switch (R36). -/

namespace Sys2Proof.Machine

/-- A link enters WARMING from OFF or FAILED (R25); a fit flag that differs from its value before is handed on (R34). -/
def enterWarming (k : LinkId) (s : State) : State :=
  let before := (s.link k).fit
  let s := s.modifyLink k (·.warmed s.now)
  if (s.link k).fit = before then s else toldFitness k s

/-- A link enters FAILED (R30): its deadlines go, its frames are lost, its routes are answered, LINK_FAILED is raised. -/
def fail (k : LinkId) (s : State) : State :=
  let s := s.modifyLink k fun l => { l with state := .failed, warmUpDeadline := none, lingerDeadline := none }
  let s := failureDiscard k s
  (toldFailed k s).raise .lp .linkFailed k.val

/-- A WARMING, STANDBY or FAILED link goes OFF (R23), or a STANDBY link at its linger deadline (R32). -/
def switchOff (k : LinkId) (s : State) : State := toldOff k (enterOff k s)

/-- An ACTIVE link is retired (R24): its routes are forced off it, and it is OFF at once if it holds no frame. -/
def retire (k : LinkId) (s : State) : State :=
  let s := s.modifyLink k fun l => { l with state := .retiring, lingerDeadline := none }
  judgeIdle k (toldRetired k s)

/-- A link's degraded flag is recomputed and its fitness re-judged; a change of fitness is handed on (R21, R33, R34). -/
def rejudge (k : LinkId) (s : State) : State :=
  let before := (s.link k).fit
  let s := s.modifyLink k Link.rejudged
  if (s.link k).fit = before then s else toldFitness k s

/-- The warm-up deadline is reached (R26): with carrier the link is STANDBY and LINK_READY is raised, without it FAILED. -/
def endWarmUp (k : LinkId) (s : State) : State :=
  if (s.link k).carrier then toldReady k ((enterStandby k s).raise .lp .linkReady k.val) else fail k s

end Sys2Proof.Machine
end

