-- ==== Sys2Proof/Machine/SessionOps.lean ====
section
/-! DEFINITION. The session unit's moves: looking sessions up, entering CLOSING, parking, the end of closing
(04 sections 5.2, 5.5 and 5.7). -/

namespace Sys2Proof.Machine

/-- The handle of the non-FREE session that meets a test; the lowest, should there be several (R69: there are none). -/
def State.findSession (s : State) (test : Session → Bool) : Option Nat :=
  (s.sessions.entries.find? fun e => test e.2).map (·.1)

/-- The session with a digest, or with an endpoint address; address 0 names none (R69, R99). -/
def State.byDigest (s : State) (d : BitVec 64) : Option Nat := s.findSession fun x => x.digest = d
def State.byAddress (s : State) (a : BitVec 32) : Option Nat := s.findSession fun x => x.address = a

/-- The lowest FREE handle (R72). -/
def State.freeHandle (s : State) : Option Nat := (List.range Config.sessionCount).find? fun h => (s.session h).isNone

def SessionClose.reason : SessionClose → CloseReason
  | .detach => .detach
  | .expiry => .expiry

/-- Free the map entries of a bearer list (R76 step 1). -/
def freeTags (bearers : List Bearer) (s : State) : State := bearers.foldl (fun s b => s.setTag b.tag none) s

/-- A session enters CLOSING (R76, steps 1 to 5). -/
def enterClosing (h : Nat) (why : SessionClose) (s : State) : State :=
  match s.session h with
  | none => s
  | some x =>
    let s := freeTags x.bearers s
    let s := s.setSession h (some { x with phase := .closing why, bearers := [] })
    discardPool h .poolGone s

/-- A session is parked (R85), its contexts apart, which the meter closes (R125). -/
def park (h : Nat) (s : State) : State :=
  let s := s.modifySession h fun x => { x with phase := .parked (s.after x.parkHold) }
  discardPool h .poolParked s

/-- The end of one session's closing (R77, R78): with no queued frame left, a CLOSING session's OPEN contexts are closed in
class order, and it becomes FREE if no context of it remains. -/
def endClosing (h : Nat) (s : State) : State :=
  match s.session h with
  | none => s
  | some x =>
    match x.phase with
    | .active | .parked _ => s
    | .closing why =>
      if s.queuedFrames h = 0 then
        let s := closeSessionContexts h why.reason s
        if s.openContexts h + s.sealedContexts h = 0 then s.setSession h none else s
      else s

/-- The end of closing of some sessions in turn. -/
def endClosings (handles : List Nat) (s : State) : State := handles.foldl (fun s h => endClosing h s) s

/-- The end of closing of every session an event has emptied, in rising order of handle (R105, R143; log entry 7). -/
def endAllClosing (s : State) : State := endClosings s.sessions.keys s

/-- A queued frame is the last one of a CLOSING session: the session's closing ends once the frame has left. -/
def State.lastOfClosing (s : State) (f : Frame) : Bool :=
  (s.session f.session).any (·.phase.isClosing) && decide (s.queuedFrames f.session = 1)

/-- The end of closing, before a queued frame leaves and is metered, of the sessions that the event has emptied so far: of all
of them, or, where the frame's own session ends with it, of those with a lower handle, so that in one event sessions end in
rising order of handle (R105, R143; DEDUCED, log entry 7). -/
def endClosingsBefore (f : Frame) (s : State) : State :=
  endClosings (s.sessions.keys.filter fun h => !s.lastOfClosing f || decide (h < f.session)) s

end Sys2Proof.Machine
end

