-- ==== Sys2Proof/Machine/ZoneOps.lean ====
section
/-! DEFINITION. The zone tracker's moves and the crossing that every block answers (01 sections 2.3 to 2.6, R58, R84, R85,
R125), and the service start check (08 section 9.4). -/

namespace Sys2Proof.Machine

/-- The handles of the sessions that are ACTIVE. -/
def State.activeSessions (s : State) : List Nat :=
  (s.sessions.entries.filter fun e => decide (e.2.phase = .active)).map (·.1)

/-- What the meter closes on a crossing, in the order of the open list (R125): PARK for a session the crossing parks, ZONE
for every other context when the tariff zone changes. -/
def crossingCloses (changed : Bool) (parked : List Nat) (s : State) : List (Nat × CloseReason) :=
  s.openList.filterMap fun i =>
    match s.openContext i with
    | none => none
    | some (x, _) =>
      if parked.contains x.session then some (i, .park) else if changed then some (i, .zone) else none

/-- A crossing is answered (R15): by the route unit, the session unit and the meter in this order (log entry 23), and
ZONE_CROSSED is raised on LP and PP. Every route answers every crossing by R58, a RELOAD that leaves mask and preference list
as they were too (DESIGN CHOICE, log entry 34). -/
def crossing (x : Crossing) (s : State) : State :=
  let s := inServing (fun s => allRoutes.foldl (fun s r => answerCrossing r s) s) s
  let s := evaluateAllRoaming s
  let parked := if x.new.2.silent then s.activeSessions else []
  let s := parked.foldl (fun s h => park h s) s
  let s := closeAll (crossingCloses x.changesZone parked s) s
  (s.raise .lp .zoneCrossed x.new.1).raise .pp .zoneCrossed x.new.1

/-- The index and the record of a segment of the table in force. -/
def State.segmentRecord (s : State) (i : Nat) : Option (Nat × Segment) := (s.zone.table[i]?).map fun g => (i, g)

/-- The current segment's index and record. -/
def State.currentRecord (s : State) : Option (Nat × Segment) := s.segmentIndex.bind s.segmentRecord

/-- A crossing is published with its cause and the old segment, the new segment being the current one already (R15). -/
def publish (cause : CrossingCause) (old : Option (Nat × Segment)) (s : State) : State :=
  match s.currentRecord with
  | some new => crossing { cause := cause, old := old, new := new } s
  | none => s

/-- The tracker becomes STALE (R14). -/
def becomeStale (s : State) : State :=
  match s.zone.tracker with
  | .located f _ => { s with zone := { s.zone with tracker := .stale f, run := none } }
  | .unlocated | .stale _ => s

/-- Where a GOOD report falls relative to the current segment (R11). -/
inductive Place where
  | inside | guardBand | clear (d : RunDirection)
deriving DecidableEq, Repr

/-- The place of distance `d` relative to a segment covering `start` to `last`, with guard distance `g` (R11); the sums are
whole numbers, not wrapped. -/
def placeOf (start last g d : Nat) : Place :=
  if start ≤ d ∧ d ≤ last then .inside
  else if last < d then (if d ≤ last + g then .guardBand else .clear .up)
  else if start ≤ d + g then .guardBand else .clear .down

/-- The confirmation run after a report in a place (R11). -/
def runAfter (run : Option (RunDirection × Nat)) : Place → Option (RunDirection × Nat)
  | .inside => none
  | .guardBand => run
  | .clear d =>
    match run with
    | some (e, n) => if e = d then some (d, n + 1) else some (d, 1)
    | none => some (d, 1)

/-- A GOOD report while UNLOCATED (R10): the tracker is located at once and a FIRST_FIX crossing is published. -/
def firstFix (d : Nat) (s : State) : State :=
  let fix : Fix := { segment := segmentAt s.zone.table d, distance := d, time := s.now }
  publish .firstFix none { s with zone := { s.zone with tracker := .located fix (s.after s.zone.staleLimit), run := none } }

/-- A GOOD report while LOCATED or STALE (R11 to R13): the fix and the stale deadline are renewed, the run is updated, and
a run that reaches K confirms a crossing. The Bool says whether it did. -/
def goodReport (f : Fix) (d : Nat) (s : State) : State × Bool :=
  let start := ((s.zone.table[f.segment]?).map (·.start)).getD 0
  let run := runAfter s.zone.run (placeOf start (segmentEnd s.zone.table f.segment) s.zone.guardDistance d)
  let confirmed := match run with
    | some (_, n) => decide (s.zone.confirmCount ≤ n)
    | none => false
  let segment := if confirmed then segmentAt s.zone.table d else f.segment
  let old := s.segmentRecord f.segment
  let fix : Fix := { segment := segment, distance := d, time := s.now }
  let s := { s with
    zone := { s.zone with
      tracker := .located fix (s.after s.zone.staleLimit)
      run := if confirmed then none else run } }
  if confirmed then (publish .confirmed old s, true) else (s, false)

/-! ### Service start (R153, R155) -/

/-- The tracker is LOCATED. -/
def State.located (s : State) : Bool :=
  match s.zone.tracker with
  | .located _ _ => true
  | .unlocated | .stale _ => false

/-- The four conditions of the service start check (R153). -/
def State.startConditions (s : State) : Bool × Bool × Bool × Bool :=
  (!s.zone.table.isEmpty, s.located, s.tariff.isSome, (s.port .lp).startFlag && (s.port .pp).startFlag)

/-- The service start check (R153): when it passes in CONFIGURING the service enters SERVING, and every route, all of them
IDLE and DARK, makes its forced selection (R155). -/
def startCheck (s : State) : State :=
  match s.service with
  | .serving => s
  | .configuring =>
    if s.startConditions = (true, true, true, true) then reselectAllDark { s with service := .serving } else s

end Sys2Proof.Machine
end

