-- ==== Sys2Proof/Machine/NoticeOps.lean ====
section
/-! DEFINITION. Notices (09): gathering occurrences, following conditions, the arbiter's choice and its running at the end
of an event; the header the part fills in (R160); how an event ends. -/

namespace Sys2Proof.Machine

/-- A kind's code (08 section 9.7.2). -/
def NoticeKind.code : NoticeKind → Nat
  | .peerRestart => 1 | .coverageOff => 2 | .routeDark => 3 | .sessionRestricted => 4 | .sessionReleased => 5
  | .linkFailed => 6 | .swapRollback => 7 | .zoneCrossed => 8 | .positionStale => 9 | .linkReady => 10
  | .swapDone => 11 | .drainDiscard => 12 | .recordBacklog => 13 | .fundsOut => 14 | .unrecorded => 15
  | .lowBalance => 16 | .recordsWaiting => 17

/-! ### Slots -/

/-- Change a port's slot of a kind. -/
def modifySlot (p : Port) (k : NoticeKind) (f : NoticeSlot → NoticeSlot) (s : State) : State :=
  s.modifyPort p fun x => { x with slots := x.slots.map fun sl => if sl.kind = k then f sl else sl }

/-- What a slot holds after one more occurrence (R161): the count stays at 255 once there. -/
def gatherInto (subject now : Nat) : Option Gathered → Gathered
  | none => { count := 1, subject := subject, firstTime := now }
  | some g => { g with count := min 255 (g.count + 1) }

/-- Gather an occurrence into its slot (R161). -/
def gather (o : Occurrence) (s : State) : State :=
  modifySlot o.port o.kind (fun sl => { sl with pending := some (gatherInto o.subject s.now sl.pending) }) s

/-- Withdraw a slot (R162). -/
def withdraw (p : Port) (k : NoticeKind) (s : State) : State := modifySlot p k (fun sl => { sl with pending := none }) s

/-- Gather every occurrence the event raised, in order. -/
def gatherAll (s : State) : State := s.raised.foldl (fun s o => gather o s) { s with raised := [] }

/-- A CONDITION other than ROUTE_DARK, across an event (R162): passing to holding is an occurrence, passing to not holding
withdraws the slot. -/
def followCondition (before : State) (p : Port) (k : NoticeKind) (s : State) : State :=
  if s.holds k && !before.holds k then gather ⟨p, k, s.conditionSubject k⟩ s
  else if before.holds k && !s.holds k then withdraw p k s
  else s

/-- ROUTE_DARK on a port across an event (R64, R162): each route's entry into DARK is an occurrence; when no route is DARK
after the event the slot is withdrawn. -/
def followRouteDark (before : State) (p : Port) (s : State) : State :=
  if s.holds .routeDark then
    (allRoutes.filter fun r => s.dark r && !before.dark r).foldl (fun s r => gather ⟨p, .routeDark, r.val⟩ s) s
  else if before.holds .routeDark then withdraw p .routeDark s
  else s

/-- Every CONDITION slot follows its condition across an event (R162). -/
def followConditions (before : State) (s : State) : State :=
  let s := followCondition before .rp .coverageOff s
  let s := followRouteDark before .rp s
  let s := followRouteDark before .lp s
  let s := followCondition before .lp .positionStale s
  let s := followCondition before .pp .recordBacklog s
  followCondition before .pp .recordsWaiting s

/-! ### Messages the part builds -/

/-- The header's status byte as it stands (08 section 9.7.1). -/
def State.statusByte (s : State) : Byte :=
  (match s.service with | .serving => 1 | .configuring => 0) + (if s.clock.isSet then 0 else 2)

/-- Append a message to a port's outbound queue. -/
def appendOut (p : Port) (m : Message) (s : State) : State :=
  s.modifyPort p fun x => { x with outbound := x.outbound ++ [m] }

/-- The notice message of a slot (08 section 9.7.2). -/
def noticeMessage (p : Port) (sl : NoticeSlot) (g : Gathered) (s : State) : Message :=
  { mtype := 3, code := BitVec.ofNat 8 sl.kind.code, tag := 0, response := 0, status := s.statusByte,
    port := BitVec.ofNat 8 p.number,
    body := beBytes 2 g.subject ++ beBytes 1 g.count ++ beBytes 1 sl.level ++ beBytes 8 g.firstTime }

/-! ### The arbiter (R163, R166, R167) -/

/-- The slot may be chosen: pending, eligible, and URGENT or no pacing deadline standing. -/
def NoticeSlot.choosable (sl : NoticeSlot) (x : PortState) : Bool :=
  sl.pending.isSome && decide (x.level < sl.level) && (decide (sl.level = 4) || x.pacingDeadline.isNone)

/-- The slot of highest level among those that may be chosen, the first in kind order among equals. -/
def PortState.chosen (x : PortState) : Option NoticeSlot :=
  (x.slots.filter (·.choosable x)).foldl (init := none) fun best sl =>
    match best with
    | none => some sl
    | some b => if b.level < sl.level then some sl else some b

/-- One choice (R166): with room and a slot to choose, the notice is appended, its slot is no longer pending, and the
pacing deadline is set for a kind that is not URGENT (R167). -/
def chooseNotice (p : Port) (s : State) : State :=
  let x := s.port p
  if x.outbound.length < Config.outboundCapacity then
    match x.chosen with
    | some sl =>
      match sl.pending with
      | some g =>
        let s := appendOut p (noticeMessage p sl g s) s
        let s := withdraw p sl.kind s
        if sl.level = 4 ∨ x.pacing = 0 then s
        else s.modifyPort p fun y => { y with pacingDeadline := some (s.now + y.pacing) }
      | none => s
    | none => s
  else s

/-- The last place in a port's outbound queue is contested: a request waits for it (R166, log entry 6). -/
def PortState.contested (x : PortState) : Bool :=
  !x.inbound.isEmpty && decide (Config.outboundCapacity ≤ x.outbound.length + 1)

/-- The arbiter chooses again and again, at most `n` times, until nothing more can be chosen or the place is contested. -/
def arbitrate : Nat → Port → State → State
  | 0, _, s => s
  | n + 1, p, s => if (s.port p).contested then s else arbitrate n p (chooseNotice p s)

/-- A port's arbiter runs (R166): a run sends each slot at most once. -/
def runArbiter (p : Port) (s : State) : State := arbitrate (s.port p).slots.length p s

def runArbiters (s : State) : State := runArbiter .pp (runArbiter .lp (runArbiter .rp s))

/-! ### The end of an event -/

/-- Occurrences are gathered and conditions followed. -/
def noteEvent (before s : State) : State := followConditions before (gatherAll s)

/-- An event's state once its sessions' closings are done (R105) and its occurrences are in their slots. -/
def settleEvent (before s : State) : State := noteEvent before (endAllClosing s)

/-- An event that is not a request: its effect, its end, the arbiters. -/
def event (effect : State → State) (s : State) : Host.Outcome State Fault Refusal :=
  .next (runArbiters (settleEvent s (effect s)))

end Sys2Proof.Machine
end

