-- ==== Sys2Proof/Machine/PortOps.lean ====
section
/-! DEFINITION. Taking a request from a port's inbound queue and answering it (R149 to R152), and the port reset (R158,
R168, R171). -/

namespace Sys2Proof.Machine

/-- What an owning block answers to a request it has been handed. -/
inductive Answer where
  /-- Refused: a code, the fields the owning rule names, and no change (R151). -/
  | refuse (code : ResponseCode) (body : List Byte)
  /-- OK, with nothing changed: a read, or "OK, with no effect". -/
  | report (body : List Byte)
  /-- OK, with a change that reaches no session, frame or context: conditions are followed, nothing else. -/
  | settle (state : State) (body : List Byte)
  /-- OK, with a change; the body is read from the state the event leaves. -/
  | carry (state : State) (body : State → List Byte)

/-- The response to a request, with the header as it stands when it is appended (R160). -/
def responseTo (p : Port) (m : Message) (code : ResponseCode) (body : List Byte) (s : State) : Message :=
  { mtype := 2, code := m.code, tag := m.tag, response := BitVec.ofNat 8 code.number, status := s.statusByte,
    port := BitVec.ofNat 8 p.number, body := body }

/-- Append a response to a request. -/
def respond (p : Port) (m : Message) (code : ResponseCode) (body : List Byte) (s : State) : State :=
  appendOut p (responseTo p m code body s) s

/-- The request at the head of a port's inbound queue, when it is of a row of the table and the outbound queue has room
for its response (R149). -/
def State.headRequest (s : State) (p : Port) (q : Request) : Option Message :=
  match (s.port p).inbound with
  | m :: _ => if requestOf m = q ∧ (s.port p).outbound.length < Config.outboundCapacity then some m else none
  | [] => none

/-- The head of a port's inbound queue is taken off it. -/
def dropHead (p : Port) (s : State) : State := s.modifyPort p fun x => { x with inbound := x.inbound.tail }

/-- Carry an answer out: the event ends, the response is appended, and the arbiters run behind it (R149, R166). -/
def conclude (p : Port) (m : Message) (before : State) : Answer → State
  | .refuse code body => runArbiter p (respond p m code body before)
  | .report body => runArbiter p (respond p m .ok body before)
  | .settle s body => runArbiters (respond p m .ok body (followConditions before s))
  | .carry s body =>
    let s := settleEvent before s
    runArbiters (respond p m .ok (body s) s)

/-- What the port interface makes of a request it takes (R149): the privilege check, then the form of the body as `read`
reads it, then the owning block's `answer`. -/
def answerRequest {α : Type} (q : Request) (p : Port) (m : Message) (read : List Byte → Option α)
    (answer : α → State → Answer) (s : State) : Answer :=
  if permitted q p = false then .refuse .notPermitted []
  else if bodyLimit q < m.body.length then .refuse .invalid []
  else
    match read m.body with
    | none => .refuse .invalid []
    | some fields => answer fields s

/-- A port takes the request at the head of its inbound queue (R149), where it is one of row `q`. Where the head is another
request, the queue is empty or there is no room for the response, nothing is taken (log entry 3). -/
def takeRequest {α : Type} (q : Request) (p : Port) (read : List Byte → Option α) (answer : α → State → Answer)
    (s : State) : Host.Outcome State Fault Refusal :=
  match s.headRequest p q with
  | none => .next s
  | some m =>
    let s := dropHead p s
    .next (conclude p m s (answerRequest q p m read answer s))

/-- The CONDITION kinds of a port. -/
def conditionKinds : Port → List NoticeKind
  | .rp => [.coverageOff, .routeDark]
  | .lp => [.routeDark, .positionStale]
  | .pp => [.recordBacklog, .recordsWaiting]

/-- A port reset (R158, steps 1 to 7): the queues are emptied, the slots cleared and each holding condition made pending
afresh, the notice settings and baselines and the start flag put back, and PEER_RESTART raised on the other two ports. -/
def resetPort (p : Port) (s : State) : State :=
  let s := s.modifyPort p fun x =>
    { x with
      inbound := []
      outbound := []
      startFlag := false
      level := 3
      pacing := 0
      pacingDeadline := none
      slots := defaultSlots p
      baselines := s.counters }
  let s := (conditionKinds p).foldl (init := s) fun s k =>
    if s.holds k then gather ⟨p, k, s.conditionSubject k⟩ s else s
  (allPorts.filter (decide <| · ≠ p)).foldl (fun s q => gather ⟨q, .peerRestart, p.number⟩ s) s

end Sys2Proof.Machine
end

