-- ==== Sys2Proof/Machine/Sessions.lean ====
section
/-! DEFINITION. The requests and the deadline of the session unit (04). -/

namespace Sys2Proof.Machine

/-- A value brought into a range. -/
def clamp (low high v : Nat) : Nat := max low (min high v)

/-- The session a handle names (R67): none above 511, and none where the handle is FREE. -/
def State.named (s : State) (h : Nat) : Option Session := if h < Config.sessionCount then s.session h else none

/-- A session's state as a name: FREE 0, ACTIVE 1, PARKED 2, CLOSING 3. -/
def State.sessionNumber (s : State) (h : Nat) : Nat :=
  match s.session h with
  | some x => x.phase.number
  | none => 0

/-- The route of a group has no bound link. -/
def State.routeDark (s : State) (r : RouteId) : Bool := (s.route r).bound.isNone

def bearerBytes (b : Bearer) : List Byte := beBytes 2 b.tag ++ beBytes 1 b.cls.number

/-! ### ATTACH (R70 to R72) -/

/-- Check 3 of R70. An account number above 255 fails it here, with INVALID and in its place among the checks, and not with R132's
NO_SUCH before any other (DESIGN CHOICE, log entry 46). -/
def AttachFields.valid (f : AttachFields) : Bool :=
  decide (f.group < 8) && decide (f.account < Config.accountCount) && decide (f.address ≠ 0)
    && decide (1 ≤ f.bearers.length ∧ f.bearers.length ≤ 4)
    && f.bearers.all fun b => decide (b.1 < Config.tagCount ∧ b.2 < 4)

/-- The first conflict of R71, as the body of its IN_USE response: the kind (DIGEST 0, ADDRESS 1, TAG 2), then the holding
handle and its state, or the tag and its holding handle where there is one. A tag's conflicts are examined in the order
held, then repeated. R71 and R160 do not say which of these fields are optional ones: the handle and the state, which a holder
always has, stand bare, and a tag's holding handle has a presence byte (DESIGN CHOICE, log entry 40). -/
def State.attachConflict (s : State) (f : AttachFields) : Option (List Byte) :=
  match s.byDigest f.digest with
  | some h => some (beBytes 1 0 ++ beBytes 2 h ++ beBytes 1 (s.sessionNumber h))
  | none =>
    match s.byAddress f.address with
    | some h => some (beBytes 1 1 ++ beBytes 2 h ++ beBytes 1 (s.sessionNumber h))
    | none =>
      let tags := f.bearers.map (·.1)
      (tags.find? fun t => (s.tagEntry t).isSome || decide (1 < tags.count t)).map fun t =>
        beBytes 1 2 ++ beBytes 2 t ++ optionalBytes (fun e => beBytes 2 e.1) (s.tagEntry t)

/-- The bearers of a request whose classes have been checked. -/
def bearersOf (l : List (Nat × Nat)) : List Bearer := l.filterMap fun b => (classOf b.2).map fun c => ⟨b.1, c⟩

/-- Map each bearer's tag to a session and the bearer's class (R68). -/
def mapTags (h : Nat) (bearers : List Bearer) (s : State) : State :=
  bearers.foldl (fun s b => s.setTag b.tag (some (h, b.cls))) s

/-- The new session's record (R72). -/
def State.attached (s : State) (f : AttachFields) (group : RouteId) : Session :=
  { phase := .active, digest := f.digest, group := group, account := f.account, address := f.address,
    bearers := bearersOf f.bearers,
    causes :=
      { funds := (s.account f.account).funds, barred := false,
        roaming := (s.currentEntry group).permission.restricts }
    parkHold := (f.parkHold.map (clamp 60 14400)).getD Config.defaultParkHold
    attachTime := s.stamp }

/-- The checks of R70 in order, then R72. R132 would have an account number above 255 refused before them all (DESIGN CHOICE, log
entry 46). -/
def answerAttach (f : AttachFields) (s : State) : Answer :=
  if s.service ≠ .serving then .refuse .notReady []
  else if s.silent then .refuse .silent []
  else
    match f.valid, routeOf f.group with
    | true, some group =>
      if (s.account f.account).isOpen = false then .refuse .noSuch []
      else
        match s.attachConflict f with
        | some body => .refuse .inUse body
        | none =>
          if (s.currentEntry group).permission = .deny then .refuse .denied []
          else
            match s.freeHandle with
            | none => .refuse .noSpace []
            | some h =>
              let x := s.attached f group
              .settle (mapTags h x.bearers (s.setSession h (some x)))
                (beBytes 2 h ++ causeBytes x.causes ++ beBytes 2 x.parkHold ++ yesNo (s.routeDark group))
    | _, _ => .refuse .invalid []

/-- ATTACH. -/
def execAttach (p : Port) (s : State) : Host.Outcome State Fault Refusal := takeRequest .attach p readAttach answerAttach s

/-! ### DETACH (R75) -/

def detachBody (h : Nat) (s : State) : List Byte := beBytes 1 (s.sessionNumber h) ++ beBytes 2 (s.queuedFrames h)

def answerDetach (h : Nat) (s : State) : Answer :=
  match s.named h with
  | none => .refuse .noSuch []
  | some x => if x.phase.isClosing then .report (detachBody h s) else .carry (enterClosing h .detach s) (detachBody h)

/-- DETACH. -/
def execDetach (p : Port) (s : State) : Host.Outcome State Fault Refusal := takeRequest .detach p (readOne 2) answerDetach s

/-! ### Bearers (R73, R74) -/

/-- The response to a bearer request: the session's state (R67), which stands first (DESIGN CHOICE, log entry 36), and its
bearer list. -/
def bearersBody (x : Session) : List Byte := beBytes 1 x.phase.number ++ listBytes bearerBytes x.bearers

def answerBearerAdd (f : BearerFields) (s : State) : Answer :=
  match s.named f.handle with
  | none => .refuse .noSuch []
  | some x =>
    if x.phase.isClosing then .refuse .wrongState []
    else
      match decide (f.tag < Config.tagCount), classOf f.cls with
      | true, some c =>
        if 4 ≤ x.bearers.length then .refuse .noSpace []
        else
          match s.tagEntry f.tag with
          | some e => .refuse .inUse (beBytes 2 e.1)
          | none =>
            let x := { x with bearers := x.bearers ++ [⟨f.tag, c⟩] }
            .settle ((s.setSession f.handle (some x)).setTag f.tag (some (f.handle, c))) (bearersBody x)
      | _, _ => .refuse .invalid []

/-- BEARER_ADD. -/
def execBearerAdd (p : Port) (s : State) : Host.Outcome State Fault Refusal :=
  takeRequest .bearerAdd p readBearerAdd answerBearerAdd s

def answerBearerDrop (f : Nat × Nat) (s : State) : Answer :=
  match s.named f.1 with
  | none => .refuse .noSuch []
  | some x =>
    if x.phase.isClosing then .refuse .wrongState []
    else if (x.bearers.any fun b => decide (b.tag = f.2)) = false then .refuse .noSuch []
    else if x.bearers.length = 1 then .refuse .wrongState []
    else
      let x := { x with bearers := x.bearers.filter fun b => decide (b.tag ≠ f.2) }
      .settle ((s.setSession f.1 (some x)).setTag f.2 none) (bearersBody x)

/-- BEARER_DROP. -/
def execBearerDrop (p : Port) (s : State) : Host.Outcome State Fault Refusal :=
  takeRequest .bearerDrop p readBearerDrop answerBearerDrop s

/-! ### RESUME (R87) -/

/-- The session's state, which stands first (DESIGN CHOICE, log entry 36), and its cause set after a request (R67, R81, R87). -/
def causesBody (h : Nat) (s : State) : List Byte :=
  beBytes 1 (s.sessionNumber h) ++ causeBytes (((s.session h).map (·.causes)).getD ⟨false, false, false⟩)

def answerResume (h : Nat) (s : State) : Answer :=
  match s.named h with
  | none => .refuse .noSuch []
  | some x =>
    match x.phase with
    | .active | .closing _ => .refuse .wrongState []
    | .parked _ =>
      if s.silent then .refuse .silent []
      else .carry (evaluateRoaming h (s.setSession h (some { x with phase := .active }))) (causesBody h)

/-- RESUME. -/
def execResume (p : Port) (s : State) : Host.Outcome State Fault Refusal := takeRequest .resume p (readOne 2) answerResume s

/-! ### SESSION_BAR and SESSION_UNBAR (R81) -/

/-- The handle and the expected digest are those of the session (R67, R81). -/
def State.expected (s : State) (f : Nat × Option (BitVec 64)) : Bool :=
  match s.named f.1 with
  | some x =>
    match f.2 with
    | some d => decide (d = x.digest)
    | none => true
  | none => false

def answerBar (f : Nat × Option (BitVec 64)) (s : State) : Answer :=
  if s.expected f then .carry (addCause f.1 .barred s) (causesBody f.1) else .refuse .noSuch []

def answerUnbar (f : Nat × Option (BitVec 64)) (s : State) : Answer :=
  if s.expected f then .carry (removeCause f.1 .barred s) (causesBody f.1) else .refuse .noSuch []

/-- SESSION_BAR. -/
def execSessionBar (p : Port) (s : State) : Host.Outcome State Fault Refusal := takeRequest .sessionBar p readBar answerBar s

/-- SESSION_UNBAR. -/
def execSessionUnbar (p : Port) (s : State) : Host.Outcome State Fault Refusal :=
  takeRequest .sessionUnbar p readBar answerUnbar s

/-! ### SESSION_READ (R89) -/

/-- The whole record of a session that is not FREE, with its handle, whether its route is DARK and its context counts. -/
def sessionBody (h : Nat) (x : Session) (s : State) : List Byte :=
  beBytes 2 h ++ beBytes 1 x.phase.number
    ++ optionalBytes (beBytes 8) (some x.digest.toNat) ++ optionalBytes (beBytes 1) (some x.group.val)
    ++ optionalBytes (beBytes 2) (some x.account) ++ optionalBytes (beBytes 4) (some x.address.toNat)
    ++ listBytes bearerBytes x.bearers ++ causeBytes x.causes ++ beBytes 2 x.parkHold
    ++ optionalBytes (beBytes 8) (match x.phase with | .parked d => some d | .active | .closing _ => none)
    ++ optionalBytes (beBytes 1) (match x.phase with | .closing w => some w.number | .active | .parked _ => none)
    ++ beBytes 2 (s.queuedFrames h) ++ optionalBytes stampBytes (some x.attachTime)
    ++ yesNo (s.routeDark x.group) ++ beBytes 1 (s.openContexts h) ++ beBytes 1 (s.sealedContexts h)

def answerSessionRead (n : SessionName) (s : State) : Answer :=
  match n with
  | .handle h =>
    if Config.sessionCount ≤ h then .refuse .noSuch []
    else
      match s.session h with
      | some x => .report (sessionBody h x s)
      | none => .report (beBytes 1 0)
  | .digest d =>
    match s.byDigest d with
    | some h =>
      match s.session h with
      | some x => .report (sessionBody h x s)
      | none => .refuse .noSuch []
    | none => .refuse .noSuch []

/-- SESSION_READ. -/
def execSessionRead (p : Port) (s : State) : Host.Outcome State Fault Refusal :=
  takeRequest .sessionRead p readSessionName answerSessionRead s

/-! ### PARK_DEADLINE (R88) -/

/-- The session is PARKED and its park deadline has been reached. -/
def State.parkDue (s : State) (h : Nat) : Bool :=
  match s.session h with
  | some x =>
    match x.phase with
    | .parked d => decide (d ≤ s.now)
    | .active | .closing _ => false
  | none => false

/-- The session enters CLOSING with reason EXPIRY and SESSION_RELEASED is raised. -/
def parkExpiry (h : Nat) (s : State) : State := (enterClosing h .expiry s).raise .rp .sessionReleased h

/-- PARK_DEADLINE. -/
def execParkDeadline (h : Fin 512) (s : State) : Host.Outcome State Fault Refusal :=
  if s.parkDue h.val then event (parkExpiry h.val) s else .next s

end Sys2Proof.Machine
end

