-- ==== Sys2Proof/Machine/Accounts.lean ====
section
/-! DEFINITION. The requests of the account unit and the meter, and the meter's deadline (06, 07). -/

namespace Sys2Proof.Machine

/-! ### TARIFF_LOAD (R130, R131) -/

/-- The fault kinds of R130. -/
inductive TariffFault where
  | count | permission | rate
deriving DecidableEq, Repr

def TariffFault.number : TariffFault → Nat
  | .count => 0 | .permission => 1 | .rate => 2

def RawTariff.fault (e : RawTariff) : Option TariffFault :=
  if (Permission.ofNumber e.permission).isNone then some .permission
  else if allClasses.any fun c => decide (65535 < e.rates.get c) then some .rate
  else none

/-- The first faulty entry from place `i` on, with its fault. -/
def tariffFault : Nat → List RawTariff → Option (TariffFault × Nat)
  | _, [] => none
  | i, e :: rest =>
    match e.fault with
    | some x => some (x, i)
    | none => tariffFault (i + 1) rest

/-- An entry that has passed the checks. -/
def RawTariff.install (e : RawTariff) : TariffEntry :=
  { permission := (Permission.ofNumber e.permission).getD .deny, rates := e.rates }

/-- The load carried out (R131): the closes at the old rates, the new table, ROAMING, the start check. That the closes come
before ROAMING is evaluated is a DESIGN CHOICE (log entry 37). -/
def loadTariff (l : List RawTariff) (s : State) : State :=
  let s := closeAll (s.openList.map fun i => (i, .tariff)) s
  startCheck (evaluateAllRoaming { s with tariff := some (l.map RawTariff.install) })

/-- How many contexts the load closed, and how many of those it sealed. -/
def tariffBody (l : List RawTariff) (s : State) : List Byte :=
  beBytes 1 s.openList.length ++ beBytes 1 ((loadTariff l s).sealList.length - s.sealList.length)

/-- The checks of R130. A COUNT fault has no entry to name, and the refusal carries the fault kind alone (DESIGN CHOICE, log
entry 38). -/
def answerTariffLoad (l : List RawTariff) (s : State) : Answer :=
  if l.length ≠ 64 then .refuse .invalid (beBytes 1 TariffFault.count.number)
  else
    match tariffFault 0 l with
    | some (x, i) => .refuse .invalid (beBytes 1 x.number ++ beBytes 1 (i / 8) ++ beBytes 1 (i % 8))
    | none => .carry (loadTariff l s) fun _ => tariffBody l s

/-- TARIFF_LOAD. -/
def execTariffLoad (p : Port) (s : State) : Host.Outcome State Fault Refusal :=
  takeRequest .tariffLoad p readTariffLoad answerTariffLoad s

/-! ### The account record in a response (07 section 8.3, in the order of its table) -/

def flagBytes (x : Account) : List Byte := yesNo x.funds ++ yesNo x.low ++ yesNo x.clipped

/-- The whole record. A CLOSED account that was open once still reports its kind (DESIGN CHOICE, log entry 44). -/
def accountBytes (x : Account) : List Byte :=
  yesNo x.isOpen ++ optionalBytes (fun k : AccountKind => beBytes 1 k.number) x.kind
    ++ beBytes 4 x.balance ++ beBytes 4 x.shortfall ++ optionalBytes (beBytes 4) x.threshold
    ++ beBytes 4 x.spend ++ optionalBytes (beBytes 4) x.cap ++ flagBytes x ++ beBytes 2 x.sequence.toNat
    ++ beBytes 6 x.rated ++ beBytes 6 x.delivered ++ beBytes 4 x.carry.bytesUp ++ beBytes 4 x.carry.bytesDown
    ++ beBytes 4 x.carry.charge ++ yesNo x.carry.clipped ++ optionalBytes stampBytes x.carry.first
    ++ optionalBytes stampBytes x.carry.last

/-! ### ACCOUNT_OPEN (R133) -/

/-- Check 3 of R133. A field that does not belong to the kind is ignored, here too (DEDUCED, log entry 28). -/
def openValid (kind : AccountKind) (f : AccountOpenFields) : Bool :=
  match kind with
  | .prepaid => decide (f.amount.getD 0 ≤ Config.maxBalance) && decide (f.threshold.getD 0 ≤ Config.maxBalance)
  | .postpaid => decide (f.amount ≠ some 0)
  | .crew => true

/-- The record an opening leaves, its flags not yet judged. -/
def openedAccount (kind : AccountKind) (f : AccountOpenFields) : Account :=
  let x := { Account.reset with isOpen := true, kind := some kind }
  match kind with
  | .prepaid => { x with balance := f.amount.getD 0, threshold := f.threshold }
  | .postpaid => { x with cap := f.amount }
  | .crew => x

def answerAccountOpen (f : AccountOpenFields) (s : State) : Answer :=
  if Config.accountCount ≤ f.account then .refuse .noSuch []
  else if (s.account f.account).isOpen then .refuse .inUse []
  else
    match AccountKind.ofNumber f.kind with
    | none => .refuse .invalid []
    | some kind =>
      if openValid kind f then
        .carry (judgeFlags false f.account (s.setAccount f.account (openedAccount kind f)))
          fun s => accountBytes (s.account f.account)
      else .refuse .invalid []

/-- ACCOUNT_OPEN. -/
def execAccountOpen (p : Port) (s : State) : Host.Outcome State Fault Refusal :=
  takeRequest .accountOpen p readAccountOpen answerAccountOpen s

/-! ### ACCOUNT_CLOSE (R134) -/

inductive CloseBar where
  | sessions | carry | records
deriving DecidableEq, Repr

def CloseBar.number : CloseBar → Nat
  | .sessions => 0 | .carry => 1 | .records => 2

/-- The first of the cases that keep an account open. -/
def State.closeBar (s : State) (a : Nat) : Option CloseBar :=
  if 0 < s.sessionsOf a then some .sessions
  else if 0 < (s.account a).carry.charge then some .carry
  else if (s.recordsOf a).isEmpty then none
  else some .records

/-- The checks of R134; a close changes the state alone, and keeps the kind too (DESIGN CHOICE, log entry 44). -/
def answerAccountClose (a : Nat) (s : State) : Answer :=
  if Config.accountCount ≤ a then .refuse .noSuch []
  else
    let x := s.account a
    if x.isOpen then
      match s.closeBar a with
      | some b => .refuse .inUse (beBytes 1 b.number)
      | none =>
        .settle (s.setAccount a { x with isOpen := false }) (beBytes 4 x.carry.bytesUp ++ beBytes 4 x.carry.bytesDown)
    else .refuse .noSuch []

/-- ACCOUNT_CLOSE. -/
def execAccountClose (p : Port) (s : State) : Host.Outcome State Fault Refusal :=
  takeRequest .accountClose p (readOne 2) answerAccountClose s

/-! ### ACCOUNT_CREDIT (R138) -/

/-- A credit applied to an account, and the part of the amount that was not kept. -/
def Account.credit (x : Account) (amount : Nat) : Account × Nat :=
  match x.kind with
  | some .prepaid =>
    if amount ≤ x.shortfall then ({ x with shortfall := x.shortfall - amount }, 0)
    else
      let balance := x.balance + (amount - x.shortfall)
      ({ x with
          shortfall := 0
          balance := min Config.maxBalance balance
          clipped := x.clipped || decide (Config.maxBalance < balance) },
        balance - Config.maxBalance)
  | some .postpaid => ({ x with spend := x.spend - amount }, amount - x.spend)
  | some .crew | none => (x, amount)

/-- What R138 lists, in its order: a PREPAID account's balance and shortfall, a POSTPAID one's spend, with no presence bytes (DESIGN
CHOICE, log entry 15). -/
def creditBody (a kept : Nat) (s : State) : List Byte :=
  let x := s.account a
  (match x.kind with
    | some .postpaid => beBytes 4 x.spend
    | some .prepaid | some .crew | none => beBytes 4 x.balance ++ beBytes 4 x.shortfall)
    ++ flagBytes x ++ beBytes 2 x.sequence.toNat ++ beBytes 4 kept

/-- An account takes a request's settings: its record, with the flags judged and the sequence moved on (R138, R139). -/
def settleAccount (notices : Bool) (a : Nat) (x : Account) (s : State) : State :=
  (judgeFlags notices a (s.setAccount a x)).modifyAccount a fun x => { x with sequence := x.sequence + 1 }

def answerAccountCredit (f : CreditFields) (s : State) : Answer :=
  let x := s.account f.account
  if Config.accountCount ≤ f.account || !x.isOpen then .refuse .noSuch []
  else if f.amount = 0 ∨ Config.maxBalance < f.amount then .refuse .invalid []
  else if x.kind = some .crew then .refuse .wrongState []
  else if f.sequence ≠ x.sequence.toNat then .refuse .stale (beBytes 2 x.sequence.toNat)
  else
    let (y, lost) := x.credit f.amount
    .carry (settleAccount false f.account y s) (creditBody f.account lost)

/-- ACCOUNT_CREDIT. -/
def execAccountCredit (p : Port) (s : State) : Host.Outcome State Fault Refusal :=
  takeRequest .accountCredit p readCredit answerAccountCredit s

/-! ### ACCOUNT_SET (R139) -/

def Setting.isValue : Setting → Bool
  | .value _ => true
  | .keep | .remove => false

/-- A value of the setting lies outside a range. -/
def Setting.outside (low high : Nat) : Setting → Bool
  | .value v => decide (v < low ∨ high < v)
  | .keep | .remove => false

/-- The field after a setting. -/
def Setting.apply (old : Option Nat) : Setting → Option Nat
  | .keep => old
  | .remove => none
  | .value v => some v

/-- Check 1 of R139: a value given for a field that the kind does not have. -/
def settingMisplaced (kind : Option AccountKind) (f : AccountSetFields) : Bool :=
  (f.threshold.isValue && decide (kind ≠ some .prepaid)) || (f.cap.isValue && decide (kind ≠ some .postpaid))

/-- The record with the settings in force and both clipped flags cleared (R139). -/
def Account.withSettings (x : Account) (f : AccountSetFields) : Account :=
  { x with
    threshold := f.threshold.apply x.threshold
    cap := f.cap.apply x.cap
    clipped := false
    carry := { x.carry with clipped := false } }

/-- What R139 lists: the settings, the flags and the new sequence. The balance and the shortfall, which R137 has the purser computer
see in this response too, are not among them (DESIGN CHOICE, log entry 43). -/
def settingsBody (a : Nat) (s : State) : List Byte :=
  let x := s.account a
  optionalBytes (beBytes 4) x.threshold ++ optionalBytes (beBytes 4) x.cap ++ flagBytes x ++ beBytes 2 x.sequence.toNat

def answerAccountSet (f : AccountSetFields) (s : State) : Answer :=
  let x := s.account f.account
  if Config.accountCount ≤ f.account || !x.isOpen then .refuse .noSuch []
  else if settingMisplaced x.kind f then .refuse .invalid []
  else if f.threshold.outside 0 Config.maxBalance || f.cap.outside 1 Config.ceiling32 then .refuse .invalid []
  else if f.sequence ≠ x.sequence.toNat then .refuse .stale (beBytes 2 x.sequence.toNat)
  else .carry (settleAccount true f.account (x.withSettings f) s) (settingsBody f.account)

/-- ACCOUNT_SET. -/
def execAccountSet (p : Port) (s : State) : Host.Outcome State Fault Refusal :=
  takeRequest .accountSet p readAccountSet answerAccountSet s

/-! ### ACCOUNT_READ (R140) -/

/-- The record, the sessions that name the account, and its records in the queue with the sum of their charges in six bytes
(DESIGN CHOICE, log entry 39). -/
def accountBody (a : Nat) (s : State) : List Byte :=
  accountBytes (s.account a) ++ beBytes 2 (s.sessionsOf a) ++ beBytes 2 (s.recordsOf a).length
    ++ beBytes 6 ((s.recordsOf a).map (·.charge)).sum

def answerAccountRead (a : Nat) (s : State) : Answer :=
  if Config.accountCount ≤ a then .refuse .noSuch [] else .report (accountBody a s)

/-- ACCOUNT_READ. -/
def execAccountRead (p : Port) (s : State) : Host.Outcome State Fault Refusal :=
  takeRequest .accountRead p (readOne 2) answerAccountRead s

/-! ### RECORD_TAKE (R142 to R144) -/

/-- A charging record's 40 bytes (08 section 9.7.3). -/
def recordBytes (r : ChargeRecord) : List Byte :=
  beBytes 1 r.kind ++ beBytes 1 r.reason ++ beBytes 1 r.cls ++ beBytes 1 r.zone ++ beBytes 1 r.group
    ++ beBytes 1 (r.clipped.toNat + 2 * r.clockUnset.toNat) ++ beBytes 2 r.session ++ beBytes 2 r.account ++ beBytes 2 0
    ++ beBytes 8 r.digest.toNat ++ beBytes 4 r.openTime.toNat ++ beBytes 4 r.closeTime.toNat ++ beBytes 4 r.bytesUp
    ++ beBytes 4 r.bytesDown ++ beBytes 4 r.charge

/-- Each record's charge is counted as delivered (R142 step 2). -/
def deliverAll (taken : List ChargeRecord) (s : State) : State :=
  taken.foldl (fun s r => s.modifyAccount r.account (·.deliver r.charge)) s

/-- Up to `n` records are taken from the head, counted as delivered, and the room is filled (R142, R144). -/
def takeRecords (n : Nat) (s : State) : State :=
  let s := deliverAll (s.crq.take n) { s with crq := s.crq.drop n }
  admitRecords (Config.crqCapacity - s.crq.length + s.sealList.length) s

def recordsBody (taken : List ChargeRecord) (s : State) : List Byte :=
  beBytes 1 taken.length ++ taken.flatMap recordBytes ++ beBytes 2 s.crq.length

def answerRecordTake (n : Nat) (s : State) : Answer :=
  if n = 0 ∨ 16 < n then .refuse .invalid []
  else if s.crq.isEmpty then .report (recordsBody [] s)
  else .carry (takeRecords n s) (recordsBody (s.crq.take n))

/-- RECORD_TAKE. -/
def execRecordTake (p : Port) (s : State) : Host.Outcome State Fault Refusal :=
  takeRequest .recordTake p (readOne 1) answerRecordTake s

/-! ### METER_SETUP (R114) -/

def MeterParameters.setUp (x : MeterParameters) (f : MeterSetupFields) : MeterParameters :=
  { interval := (f.interval.map (clamp 10 3600)).getD x.interval
    byteLimit := (f.byteLimit.map (clamp 1 1024)).getD x.byteLimit
    recordMark := (f.recordMark.map (clamp 1 255)).getD x.recordMark }

def meterBody (x : MeterParameters) : List Byte := beBytes 2 x.interval ++ beBytes 2 x.byteLimit ++ beBytes 2 x.recordMark

def answerMeterSetup (f : MeterSetupFields) (s : State) : Answer :=
  let x := s.meter.setUp f
  .settle { s with meter := x } (meterBody x)

/-- METER_SETUP. -/
def execMeterSetup (p : Port) (s : State) : Host.Outcome State Fault Refusal :=
  takeRequest .meterSetup p readMeterSetup answerMeterSetup s

/-! ### INTERVAL_DEADLINE (R124) -/

/-- The slot holds an OPEN context whose interval deadline has been reached. -/
def State.intervalDue (s : State) (i : Nat) : Bool := s.reached ((s.openContext i).map (·.2))

/-- INTERVAL_DEADLINE. -/
def execIntervalDeadline (i : Fin 64) (s : State) : Host.Outcome State Fault Refusal :=
  if s.intervalDue i.val then event (closeContext .interval i.val) s else .next s

end Sys2Proof.Machine
end

