-- ==== Sys2Proof/Machine/Frames.lean ====
section
/-! DEFINITION. Frames arriving and opportunities answered (05 sections 6.4 to 6.6). -/

namespace Sys2Proof.Machine

/-- A legal frame length: 40 to 2048 bytes (R90). -/
def legalLength (n : Nat) : Bool := decide (Config.minFrame ≤ n ∧ n ≤ Config.maxFrame)

def Phase.isParked : Phase → Bool
  | .parked _ => true
  | .active | .closing _ => false

/-! ### UPLINK_FRAME (R97, R98) -/

/-- The frame record of an admitted uplink frame (R98). -/
def State.uplinkRecord (s : State) (h : Nat) (x : Session) (c : TrafficClass) (k : LinkId) (length : Nat) : Frame :=
  { direction := .up, session := h, cls := c, route := some x.group, link := some k, length := length,
    blocks := blocksOf length, arrival := s.now }

/-- The checks of R97 in order: the reason of the first that fails, or the link to join and the frame's record. -/
def State.classifyUplink (s : State) (tag : Nat) (source : BitVec 32) (length : Nat) :
    Except UplinkDrop (LinkId × Frame) :=
  if legalLength length = false then .error .malformed
  else
    match s.tagEntry tag with
    | none => .error .noBearer
    | some (h, c) =>
      match s.session h with
      | none => .error .noBearer
      | some x =>
        if x.phase.isParked then .error .parked
        else if source ≠ x.address then .error .spoof
        else if !x.causes.isEmpty && decide (c ≠ .c0) then .error .restricted
        else
          match (s.route x.group).bound with
          | none => .error .dark
          | some k =>
            if (s.link k).share < occupancyAll (s.linkQueues k).frames + blocksOf length then .error .full
            else .ok (k, s.uplinkRecord h x c k length)

/-- UPLINK_FRAME: a frame that fails is dropped and counted, one that passes joins its class queue. -/
def execUplinkFrame (tag : Nat) (source : BitVec 32) (length : Nat) (s : State) : Host.Outcome State Fault Refusal :=
  match s.classifyUplink tag source length with
  | .error why => .next (s.count (.uplink why) 1)
  | .ok (k, f) => .next (joinLink k f s)

/-! ### DOWNLINK_FRAME (R99, R100) -/

/-- The link's frames from shore are taken (R99 check 1). -/
def LinkState.carries : LinkState → Bool
  | .standby | .active | .retiring => true
  | .unconfigured | .off | .warming | .failed => false

/-- The checks of R99 in order: the reason of the first that fails, or the frame's record (R100). -/
def State.classifyDownlink (s : State) (k : LinkId) (destination : BitVec 32) (c : TrafficClass) (length : Nat) :
    Except DownlinkDrop Frame :=
  if (s.link k).state.carries = false then .error .linkState
  else if legalLength length = false then .error .malformed
  else
    match if destination = 0 then none else s.byAddress destination with
    | none => .error .unknown
    | some h =>
      match s.session h with
      | none => .error .unknown
      | some x =>
        if x.phase.isClosing then .error .gone
        else if x.phase.isParked then .error .parked
        else if !x.causes.isEmpty && decide (c ≠ .c0) then .error .restricted
        else if s.poolShare < occupancyAll s.pool + blocksOf length then .error .full
        else
          .ok { direction := .down, session := h, cls := c, route := none, link := none, length := length,
                blocks := blocksOf length, arrival := s.now }

/-- A downlink frame joins the tail of its class queue in the pool (R100). -/
def joinPool (f : Frame) (s : State) : State := { s with pool := s.pool.set f.cls (s.pool.get f.cls ++ [f]) }

/-- The frame is counted as received on its link, whatever becomes of it (R99). -/
def countReceived (k : LinkId) (length : Nat) (s : State) : State :=
  (s.count (.framesReceived k) 1).count (.bytesReceived k) length

/-- DOWNLINK_FRAME. -/
def execDownlinkFrame (k : LinkId) (destination : BitVec 32) (c : TrafficClass) (length : Nat) (s : State) :
    Host.Outcome State Fault Refusal :=
  let s := countReceived k length s
  match s.classifyDownlink k destination c length with
  | .error why => .next (s.count (.downlink why) 1)
  | .ok f => .next (joinPool f s)

/-! ### Age (R102) -/

/-- A frame whose age exceeds the limit of its class. -/
def State.overaged (s : State) (f : Frame) : Bool := decide (s.ageLimits.get f.cls < s.now - f.arrival)

/-! ### TRANSMIT_OPPORTUNITY (R101 to R103) -/

/-- A class of a link is eligible: its queue is not empty and its level exceeds the admission floor (R101). -/
def State.eligible (s : State) (k : LinkId) (c : TrafficClass) : Bool :=
  !((s.linkQueues k).frames.get c).isEmpty && decide ((s.link k).admissionFloor < (s.link k).levels.get c)

/-- The eligible class with the highest level, the first in class order among equals (R101). -/
def State.chosenClass (s : State) (k : LinkId) : Option TrafficClass :=
  (allClasses.filter (s.eligible k)).foldl (init := none) fun best c =>
    match best with
    | none => some c
    | some b => if (s.link k).levels.get b < (s.link k).levels.get c then some c else some b

/-- The head of a link's class queue is sent (R103). -/
def sendHead (k : LinkId) (c : TrafficClass) (f : Frame) (rest : List Frame) (s : State) : State :=
  let s := leaveLink k c rest s
  let s := (s.count (.framesSent k) 1).count (.bytesSent k) f.length
  uplinkLeft k f.route (meterFrame f.session f.cls .up f.length s)

/-- The head of a link's class queue is discarded as AGED (R102). -/
def ageHead (k : LinkId) (c : TrafficClass) (f : Frame) (rest : List Frame) (s : State) : State :=
  uplinkLeft k f.route ((leaveLink k c rest s).count (.aged k c) 1)

/-- The transmit arbiter, with at most `n` choices: overaged heads are discarded until one is sent or no class is
eligible. Closing sessions that the discards have emptied come to their end before the head is sent and metered, but for those
that stand behind the head's own session in the order of R105 (log entry 7). -/
def transmit : Nat → LinkId → State → State
  | 0, _, s => s
  | n + 1, k, s =>
    match s.chosenClass k with
    | none => s
    | some c =>
      match (s.linkQueues k).frames.get c with
      | [] => s
      | f :: rest => if s.overaged f then transmit n k (ageHead k c f rest s) else sendHead k c f rest (endClosingsBefore f s)

/-- TRANSMIT_OPPORTUNITY. Each choice takes a frame off the link, so there are no more choices than frames. -/
def execTransmitOpportunity (k : LinkId) (s : State) : Host.Outcome State Fault Refusal :=
  event (fun s => transmit (s.queuedOn k) k s) s

/-! ### DELIVERY_OPPORTUNITY (R104) -/

/-- The first class whose pool queue is not empty. -/
def State.poolClass (s : State) : Option TrafficClass := allClasses.find? fun c => !(s.pool.get c).isEmpty

/-- The pool arbiter, with at most `n` choices; the ends of closing come before the head is delivered and metered, as in
`transmit`. -/
def deliver : Nat → State → State
  | 0, s => s
  | n + 1, s =>
    match s.poolClass with
    | none => s
    | some c =>
      match s.pool.get c with
      | [] => s
      | f :: rest =>
        if s.overaged f then deliver n ({ s with pool := s.pool.set c rest }.count (.agedPool c) 1)
        else
          let s := endClosingsBefore f s
          meterFrame f.session f.cls .down f.length { s with pool := s.pool.set c rest }

/-- DELIVERY_OPPORTUNITY. -/
def execDeliveryOpportunity (s : State) : Host.Outcome State Fault Refusal :=
  event (fun s => deliver (countFrames s.pool fun _ => true) s) s

end Sys2Proof.Machine
end

