-- ==== Sys2Proof/Machine/Links.lean ====
section
/-! DEFINITION. The requests and events of the link manager (02). -/

namespace Sys2Proof.Machine

/-! ### LINK_SETUP (R19, R20) -/

/-- The default warm-up time of a kind, in seconds (02 section 3.1.1). -/
def LinkKind.defaultWarmUp : LinkKind → Nat
  | .coastal => 20
  | .satellite => 45
  | .harbour => 5

/-- A link that holds traffic or is on its way to (R19 check 2). -/
def LinkState.busy : LinkState → Bool
  | .warming | .standby | .active | .retiring => true
  | .unconfigured | .off | .failed => false

/-- The shares of all links but one. -/
def State.otherShares (s : State) (k : LinkId) : Nat :=
  ((allLinks.filter (decide <| · ≠ k)).map fun j => (s.link j).share).sum

/-- A pair of marks of the request, or the present pair where it is absent. -/
def marksOr (present : Marks) : Option (Nat × Nat) → Marks
  | some (high, low) => ⟨high, low⟩
  | none => present

def mergeMarks (present : PerClass Marks) (f : PerClass (Option (Nat × Nat))) : PerClass Marks :=
  ⟨marksOr present.c0 f.c0, marksOr present.c1 f.c1, marksOr present.c2 f.c2, marksOr present.c3 f.c3⟩

/-- Check 5 of R19 for one pair: 0 < low < high ≤ share. -/
def Marks.fits (m : Marks) (share : Nat) : Bool := decide (0 < m.low ∧ m.low < m.high ∧ m.high ≤ share)

/-- The record an accepted LINK_SETUP leaves (R20). Warm-up time and linger are clamped (R19). -/
def Link.setUp (l : Link) (kind : LinkKind) (share : Nat) (marks : PerClass Marks) (f : LinkSetupFields) : Link :=
  { l with
    kind := some kind
    warmUp := some ((f.warmUp.map fun w => max 1 (min 600 w)).getD kind.defaultWarmUp)
    linger := (f.linger.map (min 3600)).getD l.linger
    share := share
    marks := marks
    state := if l.state = .unconfigured then .off else l.state
    enable := if l.state = .unconfigured then false else l.enable }

def marksBytes (m : Marks) : List Byte := beBytes 2 m.high ++ beBytes 2 m.low
def perClassBytes {α : Type} (write : α → List Byte) (p : PerClass α) : List Byte :=
  write p.c0 ++ write p.c1 ++ write p.c2 ++ write p.c3

/-- The values now in force (R20). The kind and the warm-up time, optional fields of the record, are always there after a setup, and
stand bare (DESIGN CHOICE, log entry 42). -/
def setupBody (l : Link) : List Byte :=
  beBytes 1 ((l.kind.map (·.number)).getD 0) ++ beBytes 2 (l.warmUp.getD 0) ++ beBytes 2 l.linger ++ beBytes 2 l.share
    ++ perClassBytes marksBytes l.marks

def answerLinkSetup (f : LinkSetupFields) (s : State) : Answer :=
  match linkOf f.link with
  | none => .refuse .noSuch []
  | some k =>
    let l := s.link k
    if l.state.busy then .refuse .wrongState []
    else
      match LinkKind.ofNumber f.kind with
      | none => .refuse .invalid []
      | some kind =>
        let share := f.share.getD l.share
        if Config.storeBlocks < share + s.otherShares k + s.poolShare then .refuse .noSpace []
        else
          let marks := mergeMarks l.marks f.marks
          match allClasses.find? fun c => !(marks.get c).fits share with
          | some c => .refuse .invalid (beBytes 1 c.number)
          | none =>
            let l := l.setUp kind share marks f
            .settle (s.setLink k l) (setupBody l)

/-- LINK_SETUP. -/
def execLinkSetup (p : Port) (s : State) : Host.Outcome State Fault Refusal :=
  takeRequest .linkSetup p readLinkSetup answerLinkSetup s

/-! ### LINK_TUNE (R21) -/

/-- A class level: 0 keeps the previous one, above 3 is taken as 3. -/
def tunedLevel (old : Nat) : Option Nat → Nat
  | some 0 | none => old
  | some v => min 3 v

/-- An age limit, brought into 10..10000 ms. -/
def tunedAge (old : Nat) : Option Nat → Nat
  | some v => max 10 (min 10000 v)
  | none => old

/-- The record with the fields of R21 in force; Qu is put into force first. -/
def Link.tuned (l : Link) (f : LinkTuneFields) : Link :=
  let qu := (f.qu.map (min 1023)).getD l.qu
  let hq := (f.hq.map (min 1023)).getD l.hq
  { l with
    levels := ⟨tunedLevel l.levels.c0 f.levels.c0, tunedLevel l.levels.c1 f.levels.c1,
      tunedLevel l.levels.c2 f.levels.c2, tunedLevel l.levels.c3 f.levels.c3⟩
    floor := (f.floor.map (min 2)).getD l.floor
    qu := qu
    hq := if 1023 < qu + hq then 1023 - qu else hq
    qd := (f.qd.map (min 1023)).getD l.qd }

def tuneBody (l : Link) (ages : PerClass Nat) : List Byte :=
  perClassBytes (beBytes 1) l.levels ++ beBytes 1 l.floor ++ beBytes 2 l.qu ++ beBytes 2 l.hq ++ beBytes 2 l.qd
    ++ perClassBytes (beBytes 2) ages

def answerLinkTune (f : LinkTuneFields) (s : State) : Answer :=
  match linkOf f.link with
  | none => .refuse .noSuch []
  | some k =>
    let ages : PerClass Nat :=
      ⟨tunedAge s.ageLimits.c0 f.ages.c0, tunedAge s.ageLimits.c1 f.ages.c1,
       tunedAge s.ageLimits.c2 f.ages.c2, tunedAge s.ageLimits.c3 f.ages.c3⟩
    let s := { s.modifyLink k (·.tuned f) with ageLimits := ages }
    .carry (rejudge k s) fun s => tuneBody (s.link k) s.ageLimits

/-- LINK_TUNE. -/
def execLinkTune (p : Port) (s : State) : Host.Outcome State Fault Refusal :=
  takeRequest .linkTune p readLinkTune answerLinkTune s

/-! ### LINK_POWER (R22 to R24) -/

/-- The response carries the link's state after the request. -/
def linkStateBody (k : LinkId) (s : State) : List Byte := beBytes 1 (s.link k).state.number

/-- LINK_POWER ON by the link's state (R22). A name that is neither ON nor OFF is INVALID (log entry 16). A refusal carries no
state (DESIGN CHOICE, log entry 33). -/
def answerPowerOn (f : Nat × Nat) (s : State) : Answer :=
  match linkOf f.1 with
  | none => .refuse .noSuch []
  | some k =>
    if f.2 ≠ 0 then .refuse .invalid []
    else
      match (s.link k).state with
      | .unconfigured => .refuse .wrongState []
      | .off | .failed => .carry (enterWarming k s) (linkStateBody k)
      | .warming | .standby | .active => .report (linkStateBody k s)
      | .retiring => .refuse .busy []

/-- LINK_POWER_ON. -/
def execLinkPowerOn (p : Port) (s : State) : Host.Outcome State Fault Refusal :=
  takeRequest .linkPowerOn p readLinkName answerPowerOn s

/-- LINK_POWER OFF by the link's state (R23, R24). A refusal carries no state (DESIGN CHOICE, log entry 33). -/
def answerPowerOff (f : Nat × Nat) (s : State) : Answer :=
  match linkOf f.1 with
  | none => .refuse .noSuch []
  | some k =>
    match (s.link k).state with
    | .unconfigured => .refuse .wrongState []
    | .off | .retiring => .report (linkStateBody k s)
    | .warming | .standby | .failed => .carry (switchOff k s) (linkStateBody k)
    | .active => .carry (retire k s) (linkStateBody k)

/-- LINK_POWER_OFF. -/
def execLinkPowerOff (p : Port) (s : State) : Host.Outcome State Fault Refusal :=
  takeRequest .linkPowerOff p readLinkName answerPowerOff s

/-! ### LINK_STATUS (R28, R29) -/

/-- LINK_STATUS UP. A name that is neither UP nor DOWN is INVALID (log entry 16). A refusal carries no state (DESIGN CHOICE,
log entry 33). -/
def answerStatusUp (f : Nat × Nat) (s : State) : Answer :=
  match linkOf f.1 with
  | none => .refuse .noSuch []
  | some k =>
    if f.2 ≠ 0 then .refuse .invalid []
    else
      match (s.link k).state with
      | .unconfigured => .refuse .wrongState []
      | .failed => .carry (enterWarming k s) (linkStateBody k)
      | .off | .warming | .standby | .active | .retiring => .report (linkStateBody k s)

/-- LINK_STATUS_UP. -/
def execLinkStatusUp (p : Port) (s : State) : Host.Outcome State Fault Refusal :=
  takeRequest .linkStatusUp p readLinkName answerStatusUp s

/-- LINK_STATUS DOWN. A refusal carries no state (DESIGN CHOICE, log entry 33). -/
def answerStatusDown (f : Nat × Nat) (s : State) : Answer :=
  match linkOf f.1 with
  | none => .refuse .noSuch []
  | some k =>
    match (s.link k).state with
    | .unconfigured => .refuse .wrongState []
    | .off | .failed => .report (linkStateBody k s)
    | .warming | .standby | .active | .retiring => .carry (fail k s) (linkStateBody k)

/-- LINK_STATUS_DOWN. -/
def execLinkStatusDown (p : Port) (s : State) : Host.Outcome State Fault Refusal :=
  takeRequest .linkStatusDown p readLinkName answerStatusDown s

/-! ### LINK_REPORT (R33 to R35) -/

/-- The link takes LINK_REPORT (02 section 3.3). -/
def LinkState.takesReport : LinkState → Bool
  | .warming | .standby | .active | .retiring => true
  | .unconfigured | .off | .failed => false

/-- Not ignored: Q', the fit flag and the degraded flag. -/
def reportBody (k : LinkId) (s : State) : List Byte :=
  let l := s.link k
  yesNo false ++ beBytes 2 l.quality ++ yesNo l.fit ++ yesNo l.degraded

def answerLinkReport (f : Nat × Nat) (s : State) : Answer :=
  match linkOf f.1 with
  | none => .refuse .noSuch []
  | some k =>
    if (s.link k).state.takesReport then
      .carry (rejudge k (s.modifyLink k fun l => { l with quality := smoothed l.quality f.2 })) (reportBody k)
    else .settle (s.count (.ignoredReport k) 1) (yesNo true)

/-- LINK_REPORT. -/
def execLinkReport (p : Port) (s : State) : Host.Outcome State Fault Refusal :=
  takeRequest .linkReport p readLinkReport answerLinkReport s

/-! ### LINK_READ (R37) -/

/-- The link record in the order of its table, then the counts and the age limits. The enable line and the carrier are yes/no
bytes, On and Present being 1 (DESIGN CHOICE, log entry 32). -/
def linkBody (k : LinkId) (s : State) : List Byte :=
  let l := s.link k
  beBytes 1 l.state.number ++ optionalBytes (fun x => beBytes 1 (LinkKind.number x)) l.kind
    ++ optionalBytes (beBytes 2) l.warmUp ++ beBytes 2 l.linger ++ beBytes 2 l.share ++ perClassBytes marksBytes l.marks
    ++ perClassBytes (beBytes 1) l.levels ++ beBytes 1 l.floor ++ beBytes 2 l.qu ++ beBytes 2 l.hq ++ beBytes 2 l.qd
    ++ beBytes 2 l.quality ++ yesNo l.fit ++ yesNo l.degraded ++ yesNo l.enable ++ yesNo l.carrier
    ++ optionalBytes (beBytes 8) l.warmUpDeadline ++ optionalBytes (beBytes 8) l.lingerDeadline
    ++ beBytes 1 (s.boundRoutes k) ++ beBytes 2 (s.queuedOn k) ++ perClassBytes (beBytes 2) s.ageLimits

def answerLinkRead (n : Nat) (s : State) : Answer :=
  match linkOf n with
  | none => .refuse .noSuch []
  | some k => .report (linkBody k s)

/-- LINK_READ. -/
def execLinkRead (p : Port) (s : State) : Host.Outcome State Fault Refusal := takeRequest .linkRead p (readOne 1) answerLinkRead s

/-! ### Carrier edges (R27, R28) -/

/-- A carrier loss fails a STANDBY, ACTIVE or RETIRING link. -/
def carrierLost (k : LinkId) (s : State) : State :=
  let s := s.modifyLink k fun l => { l with carrier := false }
  match (s.link k).state with
  | .standby | .active | .retiring => fail k s
  | .unconfigured | .off | .warming | .failed => s

/-- CARRIER_LOSS. With the carrier absent already there is no change of the indication (log entry 3). -/
def execCarrierLoss (k : LinkId) (s : State) : Host.Outcome State Fault Refusal :=
  if (s.link k).carrier then event (carrierLost k) s else .next s

/-- A carrier regain takes a FAILED link to WARMING. -/
def carrierRegained (k : LinkId) (s : State) : State :=
  let s := s.modifyLink k fun l => { l with carrier := true }
  match (s.link k).state with
  | .failed => enterWarming k s
  | .unconfigured | .off | .warming | .standby | .active | .retiring => s

/-- CARRIER_REGAIN. With the carrier present already there is no change of the indication (log entry 3). -/
def execCarrierRegain (k : LinkId) (s : State) : Host.Outcome State Fault Refusal :=
  if (s.link k).carrier then .next s else event (carrierRegained k) s

/-! ### Deadlines (R26, R32) -/

def State.warmUpDue (s : State) (k : LinkId) : Bool :=
  decide ((s.link k).state = .warming) && s.reached (s.link k).warmUpDeadline

/-- WARM_UP_DEADLINE. -/
def execWarmUpDeadline (k : LinkId) (s : State) : Host.Outcome State Fault Refusal :=
  if s.warmUpDue k then event (fun s => endWarmUp k (s.modifyLink k fun l => { l with warmUpDeadline := none })) s
  else .next s

def State.lingerDue (s : State) (k : LinkId) : Bool :=
  decide ((s.link k).state = .standby) && s.reached (s.link k).lingerDeadline

/-- LINGER_DEADLINE. -/
def execLingerDeadline (k : LinkId) (s : State) : Host.Outcome State Fault Refusal :=
  if s.lingerDue k then event (switchOff k) s else .next s

end Sys2Proof.Machine
end

