-- ==== Sys2Proof/Machine/Notices.lean ====
section
/-! DEFINITION. The requests, the deadline and the choice of the notice unit (09). -/

namespace Sys2Proof.Machine

/-! ### SET_LEVEL (R165) -/

/-- The number of a port's pending slots, eligible or not. -/
def PortState.pendingSlots (x : PortState) : Nat := x.slots.countP (·.pending.isSome)

/-- The port level becomes a level; one above 3 is taken as 3. -/
def setLevel (p : Port) (level : Nat) (s : State) : State := s.modifyPort p fun x => { x with level := min 3 level }

def levelBody (x : PortState) : List Byte := beBytes 1 x.level ++ beBytes 1 x.pendingSlots

def answerSetLevel (p : Port) (level : Nat) (s : State) : Answer :=
  let s := setLevel p level s
  .settle s (levelBody (s.port p))

/-- SET_LEVEL. -/
def execSetLevel (p : Port) (s : State) : Host.Outcome State Fault Refusal :=
  takeRequest .setLevel p (readOne 1) (answerSetLevel p) s

/-! ### NOTICE_SETUP (R164) -/

/-- The codes of a port's kinds. -/
def PortState.codes (x : PortState) : List Nat := x.slots.map (·.kind.code)

/-- The first code of a list that occurs in it again later. Where several codes are named twice, R164 does not say which of them the
refusal names: it is this one (DESIGN CHOICE, log entry 41). -/
def repeated : List Nat → Option Nat
  | [] => none
  | c :: rest => if rest.contains c then some c else repeated rest

/-- The checks of R164, in order: the body of the refusal of the first that fails. Where several codes are none of the port's, the
refusal names the first of them in the list (DESIGN CHOICE, log entry 41). -/
def PortState.setupFault (x : PortState) (f : NoticeSetupFields) : Option (List Byte) :=
  if x.slots.length < f.entries.length then some []
  else
    match f.entries.find? fun e => !x.codes.contains e.1 with
    | some e => some (beBytes 1 e.1)
    | none => (repeated (f.entries.map (·.1))).map (beBytes 1)

/-- A kind's level after an entry's: 0 keeps it, above 3 is taken as 3, an URGENT kind stays URGENT. -/
def setupLevel (old new : Nat) : Nat := if old = 4 ∨ new = 0 then old else min 3 new

/-- A slot with the level of the entry that names its kind, if one does. -/
def NoticeSlot.setUp (entries : List (Nat × Nat)) (sl : NoticeSlot) : NoticeSlot :=
  match entries.find? fun e => decide (e.1 = sl.kind.code) with
  | some e => { sl with level := setupLevel sl.level e.2 }
  | none => sl

def PortState.setUp (x : PortState) (f : NoticeSetupFields) : PortState :=
  { x with
    pacing := (f.pacing.map (min 1000)).getD x.pacing
    slots := x.slots.map (·.setUp f.entries) }

/-- The pacing interval and the level of every kind, in the port's kind order. -/
def setupNoticesBody (x : PortState) : List Byte :=
  beBytes 2 x.pacing ++ listBytes (fun sl : NoticeSlot => beBytes 1 sl.level) x.slots

def answerNoticeSetup (p : Port) (f : NoticeSetupFields) (s : State) : Answer :=
  match (s.port p).setupFault f with
  | some body => .refuse .invalid body
  | none => .settle (s.modifyPort p (·.setUp f)) (setupNoticesBody ((s.port p).setUp f))

/-- NOTICE_SETUP. -/
def execNoticeSetup (p : Port) (s : State) : Host.Outcome State Fault Refusal :=
  takeRequest .noticeSetup p readNoticeSetup (answerNoticeSetup p) s

/-! ### COUNTERS_READ (R170) -/

/-- The counters of a group, by their place in Table 10-2: TRAFFIC 24, DROPS 92, MEASUREMENTS 7. -/
def groupCounters : Nat → Option (List Nat)
  | 0 => some (List.range 24)
  | 1 => some ((List.range 92).map (24 + ·))
  | 2 => some ((List.range 7).map (116 + ·))
  | _ => none

/-- A counter less a port's baseline for it, modulo 2^40. -/
def State.sinceRead (s : State) (p : Port) (n : Nat) : BitVec 40 :=
  counterValue s.counters n - counterValue (s.port p).baselines n

/-- The values of a group stand without a count byte, since the group fixes how many there are (DESIGN CHOICE, log entry 15). -/
def countersBody (p : Port) (group : List Nat) (s : State) : List Byte :=
  group.flatMap fun n => beBytes 6 (s.sinceRead p n).toNat

/-- A port's baselines for some counters move to the present values. -/
def moveBaselines (p : Port) (group : List Nat) (s : State) : State :=
  s.modifyPort p fun x =>
    { x with baselines := group.foldl (fun t n => setCounter t n (counterValue s.counters n)) x.baselines }

def answerCountersRead (p : Port) (code : Nat) (s : State) : Answer :=
  match groupCounters code with
  | none => .refuse .invalid []
  | some group => .settle (moveBaselines p group s) (countersBody p group s)

/-- COUNTERS_READ. -/
def execCountersRead (p : Port) (s : State) : Host.Outcome State Fault Refusal :=
  takeRequest .countersRead p (readOne 1) (answerCountersRead p) s

/-! ### PACING_DEADLINE (R167) and NOTICE_CHOICE (R166) -/

def State.pacingDue (s : State) (p : Port) : Bool := s.reached (s.port p).pacingDeadline

/-- PACING_DEADLINE: the deadline becomes absent and the arbiter runs. -/
def execPacingDeadline (p : Port) (s : State) : Host.Outcome State Fault Refusal :=
  if s.pacingDue p then .next (runArbiter p (s.modifyPort p fun x => { x with pacingDeadline := none })) else .next s

/-- NOTICE_CHOICE: one choice of the arbiter, where its conditions hold. -/
def execNoticeChoice (p : Port) (s : State) : Host.Outcome State Fault Refusal := .next (chooseNotice p s)

end Sys2Proof.Machine
end

