-- ==== Sys2Proof/Machine/Ports.lean ====
section
/-! DEFINITION. The commands of the control ports themselves and the full reset (08). -/

namespace Sys2Proof.Machine

/-- FULL_RESET (R157): everything in progress is abandoned, timer time restarts from 0 and every block takes its reset
values; the carrier fields follow their indications (R18). -/
def execFullReset (s : State) : Host.Outcome State Fault Refusal :=
  .next { State.reset with
    links := s.links.map fun l => { Link.reset with carrier := l.carrier }
    pending := s.pending }

/-- REQUEST_RECEIVED (R148): while sync is LOST nothing is received (R147); the message joins the inbound queue, or is
answered BUSY when that is full, or is discarded when both queues are. -/
def execRequestReceived (p : Port) (m : Message) (s : State) : Host.Outcome State Fault Refusal :=
  let x := s.port p
  if x.sync = .lost then .next s
  else if x.inbound.length < Config.inboundCapacity then
    .next (s.modifyPort p fun x => { x with inbound := x.inbound ++ [m] })
  else if x.outbound.length < Config.outboundCapacity then .next (runArbiter p (respond p m .busy [] s))
  else .next s

/-- INVALID_REQUEST (R149 step 1): a request that names none of R152's is answered INVALID. -/
def execInvalidRequest (p : Port) (s : State) : Host.Outcome State Fault Refusal :=
  takeRequest .invalid p (fun _ => some ()) (fun _ _ => .refuse .invalid []) s

/-- MESSAGE_SENT (R150): the head of the outbound queue leaves it, and the arbiter runs (R166). -/
def execMessageSent (p : Port) (s : State) : Host.Outcome State Fault Refusal :=
  if (s.port p).outbound.isEmpty then .next s
  else .next (runArbiter p (s.modifyPort p fun x => { x with outbound := x.outbound.tail }))

/-- SYNC_LOST (R147): sync becomes LOST and the port is reset; a loss taken while sync is LOST changes nothing. -/
def execSyncLost (p : Port) (s : State) : Host.Outcome State Fault Refusal :=
  if (s.port p).sync = .lost then .next s
  else .next (runArbiters (resetPort p (s.modifyPort p fun x => { x with sync := .lost })))

/-- SYNC_REGAINED (R147). -/
def execSyncRegained (p : Port) (s : State) : Host.Outcome State Fault Refusal :=
  .next (s.modifyPort p fun x => { x with sync := .locked })

/-- PORT_RESET (R158): the port it arrives on is reset, and its response is the first message behind the reset. -/
def execPortReset (p : Port) (s : State) : Host.Outcome State Fault Refusal :=
  takeRequest .portReset p readNothing (fun _ s => .settle (resetPort p s) []) s

end Sys2Proof.Machine
end

