-- ==== Sys2Proof/Machine/Routes.lean ====
section
/-! DEFINITION. The requests and deadlines of the route unit (03). -/

namespace Sys2Proof.Machine

/-! ### ROUTE_POLICY (R39, R40) -/

/-- The record with the mask and the clamped times of R39. -/
def Route.withPolicy (x : Route) (f : PolicyFields) : Route :=
  { x with
    permitted := f.mask
    drainLimit := (f.drainLimit.map fun v => max 1 (min 60 v)).getD x.drainLimit
    probationTime := (f.probationTime.map fun v => max 5 (min 120 v)).getD x.probationTime
    settleTime := (f.settleTime.map fun v => max 5 (min 600 v)).getD x.settleTime }

def policyBody (r : RouteId) (s : State) : List Byte :=
  let x := s.route r
  beBytes 1 x.permitted.toNat ++ beBytes 1 x.drainLimit ++ beBytes 1 x.probationTime ++ beBytes 2 x.settleTime

def answerRoutePolicy (f : PolicyFields) (s : State) : Answer :=
  match routeOf f.route with
  | none => .refuse .noSuch []
  | some r =>
    if 64 ≤ f.mask.toNat then .refuse .invalid []
    else .carry (inServing (answerPolicy r) (s.modifyRoute r (·.withPolicy f))) (policyBody r)

/-- ROUTE_POLICY. -/
def execRoutePolicy (p : Port) (s : State) : Host.Outcome State Fault Refusal :=
  takeRequest .routePolicy p readPolicy answerRoutePolicy s

/-! ### SWAP_ROUTE (R55 to R57) -/

inductive SwapOutcome where
  | none | cutover | waking | rollback | dark
deriving DecidableEq, Repr

def SwapOutcome.number : SwapOutcome → Nat
  | .none => 0 | .cutover => 1 | .waking => 2 | .rollback => 3 | .dark => 4

/-- A route's target (03 section 4.2): the link it waits for, or the one on probation, which is the bound link. -/
def Route.target (x : Route) : Option LinkId :=
  match x.swap with
  | .idle => none
  | .waking _ t => some t
  | .probation _ _ => x.bound

/-- The outcome a route's state shows after a swap was asked for (R55). -/
def Route.outcome (x : Route) : SwapOutcome :=
  match x.swap with
  | .probation _ _ => .cutover
  | .waking _ _ => .waking
  | .idle => if x.bound.isSome then .none else .dark

/-- The outcome, with the route's swap state, bound link and target after the request (R55). -/
def swapBody (r : RouteId) (outcome : Route → SwapOutcome) (s : State) : List Byte :=
  let x := s.route r
  let link := optionalBytes fun k : LinkId => beBytes 1 k.val
  beBytes 1 (outcome x).number ++ beBytes 1 x.swap.number ++ link x.bound ++ link x.target

/-- The target a SWAP_ROUTE names: a link, or none for AUTO. -/
inductive SwapTarget where
  | auto
  | link (k : LinkId)
deriving DecidableEq, Repr

def swapTarget (n : Nat) : Option SwapTarget := if n = 255 then some .auto else (linkOf n).map .link

/-- The checks of R55, and then what follows for a route and a target. -/
def checkedSwap (f : SwapFields) (answer : RouteId → SwapTarget → State → Answer) (s : State) : Answer :=
  if s.service ≠ .serving then .refuse .notReady []
  else
    match routeOf f.route with
    | none => .refuse .noSuch []
    | some r =>
      match swapTarget f.target with
      | none => .refuse .invalid []
      | some t =>
        if f.force = false ∧ (s.route r).swap ≠ .idle then .refuse .busy []
        else
          match t with
          | .auto => answer r .auto s
          | .link k =>
            if (s.route r).bound = some k then .report (swapBody r (fun _ => .none) s)
            else if s.candidate r none k then answer r (.link k) s
            else .refuse .unusable []

/-- SWAP_ROUTE without FORCE on an IDLE route (R56). -/
def answerSwap (r : RouteId) (t : SwapTarget) (s : State) : Answer :=
  match t, (s.route r).bound with
  | .link k, _ => .carry (startSwap r .routine k s) (swapBody r Route.outcome)
  | .auto, some b =>
    match s.routineSelection r none with
    | none => .refuse .unusable []
    | some k =>
      if k = b then .report (swapBody r (fun _ => .none) s)
      else .carry (startSwap r .routine k s) (swapBody r Route.outcome)
  | .auto, none =>
    match s.forcedSelection r none with
    | none => .refuse .unusable []
    | some _ => .carry (selectForced startSwap r none s) (swapBody r Route.outcome)

/-- SWAP_ROUTE. -/
def execSwapRoute (p : Port) (s : State) : Host.Outcome State Fault Refusal :=
  takeRequest .swapRoute p readSwap (checkedSwap · answerSwap) s

/-- Reselect pending is cleared (R57). -/
def clearReselect (r : RouteId) (s : State) : State := s.modifyRoute r fun x => { x with reselect := false }

/-- The bound link is unbound and released, what was in hand is cleared, and a FORCED swap to a named target starts (R57). -/
def forceTo (r : RouteId) (k : LinkId) (s : State) : State :=
  startSwap r .forced k (leaveBound r (s.route r).bound false (s.modifyRoute r Route.unbound))

/-- A forced cause against a bound route is answered by a rollback (R51, R57). -/
def State.rollsBack (s : State) (r : RouteId) (b : LinkId) : Bool :=
  match (s.route r).swap with
  | .probation _ _ => (s.rollbackTo r b).isSome
  | .idle | .waking _ _ => false

/-- SWAP_ROUTE with FORCE (R57). Reselect pending is cleared by the request, so that R59 is not applied where the forced cause is
answered by a rollback (DEDUCED, log entry 10). -/
def answerSwapForce (r : RouteId) (t : SwapTarget) (s : State) : Answer :=
  match t, (s.route r).bound with
  | .link k, _ => .carry (forceTo r k (clearReselect r s)) (swapBody r Route.outcome)
  | .auto, some b =>
    let outcome := if s.rollsBack r b then fun _ => .rollback else Route.outcome
    .carry (strike startSwap r b false (clearReselect r s)) (swapBody r outcome)
  | .auto, none =>
    if (s.route r).swap = .idle ∧ s.forcedSelection r none = none then .refuse .unusable []
    else .carry (reselectDark r (clearReselect r s)) (swapBody r Route.outcome)

/-- SWAP_ROUTE_FORCE. -/
def execSwapRouteForce (p : Port) (s : State) : Host.Outcome State Fault Refusal :=
  takeRequest .swapRouteForce p readSwap (checkedSwap · answerSwapForce) s

/-! ### ROUTE_READ (R65) -/

/-- The count of a route's frames on a link it may not have: 0 where it has none (DESIGN CHOICE, log entry 35). -/
def State.framesOn (s : State) (r : RouteId) : Option LinkId → Nat
  | some k => s.routeFrames r k
  | none => 0

/-- The route record and what R65 adds to it. The hold outputs are yes/no bytes, on being 1 (DESIGN CHOICE, log entry 32). -/
def routeBody (r : RouteId) (s : State) : List Byte :=
  let x := s.route r
  let link := optionalBytes fun k : LinkId => beBytes 1 k.val
  let time := optionalBytes (beBytes 8)
  let kind : Option Nat := match x.swap with
    | .idle => none
    | .waking k _ | .probation k _ => some k.number
  let probation : Option Nat := match x.swap with
    | .probation _ d => some d
    | .idle | .waking _ _ => none
  beBytes 1 x.permitted.toNat ++ beBytes 1 x.drainLimit ++ beBytes 1 x.probationTime ++ beBytes 2 x.settleTime
    ++ link x.bound ++ beBytes 1 x.swap.number ++ optionalBytes (beBytes 1) kind ++ link x.target
    ++ link (x.draining.map (·.1)) ++ time (x.draining.map (·.2)) ++ link x.lastGood ++ time probation
    ++ link (x.settle.map (·.1)) ++ time (x.settle.map (·.2)) ++ yesNo x.reselect ++ yesNo x.bound.isNone
    ++ (allClasses.flatMap fun c => yesNo (s.holdOutput r c))
    ++ beBytes 2 (s.framesOn r x.bound) ++ beBytes 2 (s.framesOn r (x.draining.map (·.1)))

def answerRouteRead (n : Nat) (s : State) : Answer :=
  match routeOf n with
  | none => .refuse .noSuch []
  | some r => .report (routeBody r s)

/-- ROUTE_READ. -/
def execRouteRead (p : Port) (s : State) : Host.Outcome State Fault Refusal :=
  takeRequest .routeRead p (readOne 1) answerRouteRead s

/-! ### Deadlines (R48, R49, R61) -/

def State.drainDue (s : State) (r : RouteId) : Bool := s.reached ((s.route r).draining.map (·.2))

/-- A drain ends by its deadline (R49): the route's frames left there are discarded. DRAIN_DISCARD is raised if there were
any (R107). -/
def endDrain (r : RouteId) (s : State) : State :=
  match (s.route r).draining with
  | none => s
  | some (d, _) => supersede r d (s.modifyRoute r fun x => { x with draining := none })

/-- DRAIN_DEADLINE. -/
def execDrainDeadline (r : RouteId) (s : State) : Host.Outcome State Fault Refusal :=
  if s.drainDue r then event (endDrain r) s else .next s

def State.probationDue (s : State) (r : RouteId) : Bool :=
  match (s.route r).swap with
  | .probation _ d => decide (d ≤ s.now)
  | .idle | .waking _ _ => false

/-- Probation is passed (R48). -/
def passProbation (r : RouteId) (s : State) : State :=
  let s := s.modifyRoute r fun x => { x with swap := .idle, lastGood := x.bound }
  backToIdle startSwap r none (s.raise .lp .swapDone r.val)

/-- PROBATION_DEADLINE. -/
def execProbationDeadline (r : RouteId) (s : State) : Host.Outcome State Fault Refusal :=
  if s.probationDue r then event (passProbation r) s else .next s

def State.settleDue (s : State) (r : RouteId) : Bool := s.reached ((s.route r).settle.map (·.2))

/-- The settle deadline is reached (R61): a ROUTINE swap to a candidate that is still preferred, else a fresh evaluation. -/
def settleReached (r : RouteId) (s : State) : State :=
  let x := s.route r
  match x.swap, x.bound, x.settle with
  | .idle, some b, some (p, _) => if s.preferred r b = some p then startSwap r .routine p s else settleEvaluate r s
  | _, _, _ => settleEvaluate r s

/-- SETTLE_DEADLINE. -/
def execSettleDeadline (r : RouteId) (s : State) : Host.Outcome State Fault Refusal :=
  if s.settleDue r then event (settleReached r) s else .next s

end Sys2Proof.Machine
end

