-- ==== Sys2Proof/Machine/Service.lean ====
section
/-! DEFINITION. The frame store's setup (R91), the voyage clock (R156) and the service start (R153, R154). -/

namespace Sys2Proof.Machine

/-! ### STORE_SETUP (R91) -/

/-- The sum of the six links' shares. -/
def State.linkShares (s : State) : Nat := (allLinks.map fun k => (s.link k).share).sum

def storeBody (s : State) : List Byte :=
  beBytes 2 s.poolShare ++ beBytes 2 s.linkShares ++ beBytes 2 (Config.storeBlocks - (s.poolShare + s.linkShares))

def answerStoreSetup (share : Nat) (s : State) : Answer :=
  if s.service = .serving then .refuse .wrongState []
  else if share < 8 then .refuse .invalid []
  else if Config.storeBlocks < share + s.linkShares then .refuse .noSpace []
  else
    let s := { s with poolShare := share }
    .settle s (storeBody s)

/-- STORE_SETUP. -/
def execStoreSetup (p : Port) (s : State) : Host.Outcome State Fault Refusal :=
  takeRequest .storeSetup p (readOne 2) answerStoreSetup s

/-! ### CLOCK_SET (R156) -/

/-- The clock at a value, set, with the count toward its next second restarted. -/
def clockAt (value : Nat) (s : State) : VoyageClock :=
  { seconds := BitVec.ofNat 32 value, isSet := true, nextSecond := s.now + 1000 }

/-- The value before, whether the clock was unset before, and the value now in force. -/
def clockBody (old new : VoyageClock) : List Byte :=
  beBytes 4 old.seconds.toNat ++ yesNo (!old.isSet) ++ beBytes 4 new.seconds.toNat

def answerClockSet (value : Nat) (s : State) : Answer :=
  .settle { s with clock := clockAt value s } (clockBody s.clock (clockAt value s))

/-- CLOCK_SET. -/
def execClockSet (p : Port) (s : State) : Host.Outcome State Fault Refusal :=
  takeRequest .clockSet p (readOne 4) answerClockSet s

/-! ### START (R154) -/

/-- The service state and the four conditions of R153, each met or not. -/
def startBody (s : State) : List Byte :=
  let (zones, located, tariff, flags) := s.startConditions
  beBytes 1 s.service.number ++ yesNo zones ++ yesNo located ++ yesNo tariff ++ yesNo flags

/-- The start flag of the port is set, and the start check follows. -/
def start (p : Port) (s : State) : State := startCheck (s.modifyPort p fun x => { x with startFlag := true })

/-- START. -/
def execStart (p : Port) (s : State) : Host.Outcome State Fault Refusal :=
  takeRequest .start p readNothing (fun _ s => .carry (start p s) startBody) s

/-! ### VOYAGE_CLOCK_TICK (R156) -/

/-- The voyage clock's next second has come. -/
def State.voyageDue (s : State) : Bool := decide (s.clock.nextSecond ≤ s.now)

/-- The clock a second on; from its top it wraps to 0. -/
def VoyageClock.next (c : VoyageClock) : VoyageClock :=
  { c with seconds := c.seconds + 1, nextSecond := c.nextSecond + 1000 }

/-- VOYAGE_CLOCK_TICK. -/
def execVoyageClockTick (s : State) : Host.Outcome State Fault Refusal :=
  if s.voyageDue then .next { s with clock := s.clock.next } else .next s

end Sys2Proof.Machine
end

