-- ==== Sys2Proof/Machine/Zones.lean ====
section
/-! DEFINITION. The requests and the deadline of the zone tracker (01). -/

namespace Sys2Proof.Machine

/-! ### ZONE_LOAD (R2 to R6) -/

/-- The fault kinds of R3, in the order of its table. -/
inductive ZoneFault where
  | count | firstStart | order | tariffZone | prefLength | prefLink | prefDuplicate | prefUnusable
deriving DecidableEq, Repr

def ZoneFault.number : ZoneFault → Nat
  | .count => 0 | .firstStart => 1 | .order => 2 | .tariffZone => 3 | .prefLength => 4 | .prefLink => 5
  | .prefDuplicate => 6 | .prefUnusable => 7

/-- No entry occurs twice. -/
def distinct : List Nat → Bool
  | [] => true
  | x :: rest => !rest.contains x && distinct rest

/-- Checks 3 to 8 of R3 on a segment, given the start of the segment before it. -/
def segmentFault (before : Option Nat) (g : RawSegment) : Option ZoneFault :=
  if before.any (g.start ≤ ·) then some .order
  else if 7 < g.zone then some .tariffZone
  else if g.prefs.isEmpty || decide (4 < g.prefs.length) then some .prefLength
  else if g.prefs.any (5 < ·) then some .prefLink
  else if !distinct g.prefs then some .prefDuplicate
  else if g.prefs.any fun k => !g.usable.getLsbD k then some .prefUnusable
  else none

/-- Checks 3 to 8 on each segment from index `i` on, in order: the first fault and the index it is found at. -/
def segmentsFault : Nat → Option Nat → List RawSegment → Option (ZoneFault × Nat)
  | _, _, [] => none
  | i, before, g :: rest =>
    match segmentFault before g with
    | some e => some (e, i)
    | none => segmentsFault (i + 1) (some g.start) rest

/-- The checks of R3, in order. -/
def zoneFault (l : List RawSegment) : Option (ZoneFault × Nat) :=
  if l.isEmpty || decide (Config.maxSegments < l.length) then some (.count, 0)
  else if (l.head?.map (·.start)) ≠ some 0 then some (.firstStart, 0)
  else segmentsFault 0 none l

/-- A segment that has passed the checks. -/
def RawSegment.install (g : RawSegment) : Segment :=
  { start := g.start, zone := Fin.ofNat 8 g.zone, silent := g.silent, usable := g.usable, prefs := g.prefs.filterMap linkOf }

/-- The table and the three parameters, clamped, put into force, and the confirmation run cleared (R2, R4). -/
def Zone.install (z : Zone) (f : ZoneLoadFields) : Zone :=
  { z with
    table := f.segments.map RawSegment.install
    run := none
    guardDistance := (f.guardDistance.map (min 255)).getD z.guardDistance
    confirmCount := (f.confirmCount.map (clamp 1 8)).getD z.confirmCount
    staleLimit := (f.staleLimit.map (clamp 10 600)).getD z.staleLimit }

/-- The tracker on the table and the limit now in force (R5, R6): its segment is the one that contains the last good
distance. A stale deadline that lies before the present has passed already (DESIGN CHOICE, log entry 13). -/
def Zone.relocated (z : Zone) (now : Nat) : Tracker :=
  match z.tracker with
  | .unlocated => .unlocated
  | .located f _ =>
    let f := { f with segment := segmentAt z.table f.distance }
    let deadline := f.time + z.staleLimit * 1000
    if deadline < now then .stale f else .located f deadline
  | .stale f => .stale { f with segment := segmentAt z.table f.distance }

/-- An accepted load (R4 to R6): the table, the re-location and, where there is a current segment, the RELOAD crossing from
the segment as it stood in the old table. -/
def loadZones (f : ZoneLoadFields) (s : State) : State :=
  let old := s.currentRecord
  let z := s.zone.install f
  let s := { s with zone := { z with tracker := z.relocated s.now } }
  startCheck (match s.zone.tracker with
    | .unlocated => s
    | .located _ _ | .stale _ => publish .reload old s)

def zoneLoadBody (s : State) : List Byte :=
  beBytes 1 s.zone.table.length ++ beBytes 2 s.zone.guardDistance ++ beBytes 1 s.zone.confirmCount
    ++ beBytes 2 s.zone.staleLimit

def answerZoneLoad (f : ZoneLoadFields) (s : State) : Answer :=
  match zoneFault f.segments with
  | some (e, i) => .refuse .invalid (beBytes 1 e.number ++ beBytes 1 i)
  | none => .carry (loadZones f s) zoneLoadBody

/-- ZONE_LOAD. -/
def execZoneLoad (p : Port) (s : State) : Host.Outcome State Fault Refusal :=
  takeRequest .zoneLoad p readZoneLoad answerZoneLoad s

/-! ### POSITION (R8 to R13) -/

/-- The run direction and count: an optional byte and a byte. -/
def runBytes (run : Option (RunDirection × Nat)) : List Byte :=
  optionalBytes (fun d : RunDirection => beBytes 1 d.number) (run.map (·.1)) ++ beBytes 1 ((run.map (·.2)).getD 0)

def positionBody (crossed : Bool) (s : State) : List Byte :=
  beBytes 1 s.zone.tracker.number ++ optionalBytes (beBytes 1) s.segmentIndex ++ runBytes s.zone.run ++ yesNo crossed

/-- A GOOD report (R10 to R13), and the start check where it makes the tracker LOCATED (R153). The Bool says whether it
caused a crossing. -/
def goodPosition (d : Nat) (s : State) : State × Bool :=
  match s.zone.tracker with
  | .unlocated => (startCheck (firstFix d s), true)
  | .located f _ => goodReport f d s
  | .stale f =>
    let (s, crossed) := goodReport f d s
    (startCheck s, crossed)

/-- The checks of R8, and then the report: GOOD 0, DEGRADED 1 (R9). A quality that is neither is INVALID before the missing
table is looked at (DESIGN CHOICE, log entry 31). -/
def answerPosition (f : Nat × Nat) (s : State) : Answer :=
  if 1 < f.2 then .refuse .invalid []
  else if s.zone.table.isEmpty then .refuse .wrongState []
  else if f.2 = 1 then .settle (s.count .degradedPosition 1) (positionBody false s)
  else
    let (t, crossed) := goodPosition f.1 s
    .carry t (positionBody crossed)

/-- POSITION. -/
def execPosition (p : Port) (s : State) : Host.Outcome State Fault Refusal :=
  takeRequest .position p readPosition answerPosition s

/-! ### ZONE_READ (R17) -/

def segmentBytes (g : Segment) : List Byte :=
  beBytes 2 g.start ++ beBytes 1 g.zone.val ++ yesNo g.silent ++ beBytes 1 g.usable.toNat
    ++ listBytes (fun k : LinkId => beBytes 1 k.val) g.prefs

def zoneBody (s : State) : List Byte :=
  let z := s.zone
  let deadline : Option Nat := match z.tracker with
    | .located _ d => some d
    | .unlocated | .stale _ => none
  beBytes 1 z.tracker.number ++ optionalBytes (beBytes 1) s.segmentIndex
    ++ optionalBytes (beBytes 2) (z.tracker.fix?.map (·.distance)) ++ optionalBytes (beBytes 8) (z.tracker.fix?.map (·.time))
    ++ runBytes z.run ++ optionalBytes (beBytes 8) deadline
    ++ beBytes 2 z.guardDistance ++ beBytes 1 z.confirmCount ++ beBytes 2 z.staleLimit ++ beBytes 1 z.table.length

/-- The record of the segment that a ZONE_READ names stands bare at the end of the body, with no presence byte, and nothing
stands there when none is named (DESIGN CHOICE, log entry 30). -/
def answerZoneRead (n : Option Nat) (s : State) : Answer :=
  match n with
  | none => .report (zoneBody s)
  | some i =>
    match s.zone.table[i]? with
    | none => .refuse .noSuch []
    | some g => .report (zoneBody s ++ segmentBytes g)

/-- ZONE_READ. -/
def execZoneRead (p : Port) (s : State) : Host.Outcome State Fault Refusal :=
  takeRequest .zoneRead p readZoneRead answerZoneRead s

/-! ### STALE_EXPIRY (R14) -/

/-- The tracker is LOCATED and its stale deadline has been reached. -/
def State.staleDue (s : State) : Bool :=
  match s.zone.tracker with
  | .located _ d => decide (d ≤ s.now)
  | .unlocated | .stale _ => false

/-- STALE_EXPIRY. -/
def execStaleExpiry (s : State) : Host.Outcome State Fault Refusal :=
  if s.staleDue then event becomeStale s else .next s

end Sys2Proof.Machine
end

