-- ==== Sys2Proof/Machine/Dispatch.lean ====
section
/-! DEFINITION. The dispatch: one arm per command, each one call of its meaning. -/

namespace Sys2Proof.Machine

def exec (i : Instr) (s : State) : Host.Outcome State Fault Refusal :=
  match i with
  | .fullReset => Sys2Proof.Machine.execFullReset s
  | .requestReceived p m => Sys2Proof.Machine.execRequestReceived p m s
  | .invalidRequest p => Sys2Proof.Machine.execInvalidRequest p s
  | .messageSent p => Sys2Proof.Machine.execMessageSent p s
  | .syncLost p => Sys2Proof.Machine.execSyncLost p s
  | .syncRegained p => Sys2Proof.Machine.execSyncRegained p s
  | .attach p => Sys2Proof.Machine.execAttach p s
  | .detach p => Sys2Proof.Machine.execDetach p s
  | .bearerAdd p => Sys2Proof.Machine.execBearerAdd p s
  | .bearerDrop p => Sys2Proof.Machine.execBearerDrop p s
  | .resume p => Sys2Proof.Machine.execResume p s
  | .linkSetup p => Sys2Proof.Machine.execLinkSetup p s
  | .linkTune p => Sys2Proof.Machine.execLinkTune p s
  | .linkPowerOn p => Sys2Proof.Machine.execLinkPowerOn p s
  | .linkPowerOff p => Sys2Proof.Machine.execLinkPowerOff p s
  | .linkStatusUp p => Sys2Proof.Machine.execLinkStatusUp p s
  | .linkStatusDown p => Sys2Proof.Machine.execLinkStatusDown p s
  | .linkReport p => Sys2Proof.Machine.execLinkReport p s
  | .position p => Sys2Proof.Machine.execPosition p s
  | .zoneLoad p => Sys2Proof.Machine.execZoneLoad p s
  | .swapRoute p => Sys2Proof.Machine.execSwapRoute p s
  | .swapRouteForce p => Sys2Proof.Machine.execSwapRouteForce p s
  | .storeSetup p => Sys2Proof.Machine.execStoreSetup p s
  | .clockSet p => Sys2Proof.Machine.execClockSet p s
  | .start p => Sys2Proof.Machine.execStart p s
  | .tariffLoad p => Sys2Proof.Machine.execTariffLoad p s
  | .routePolicy p => Sys2Proof.Machine.execRoutePolicy p s
  | .accountOpen p => Sys2Proof.Machine.execAccountOpen p s
  | .accountClose p => Sys2Proof.Machine.execAccountClose p s
  | .accountCredit p => Sys2Proof.Machine.execAccountCredit p s
  | .accountSet p => Sys2Proof.Machine.execAccountSet p s
  | .sessionBar p => Sys2Proof.Machine.execSessionBar p s
  | .sessionUnbar p => Sys2Proof.Machine.execSessionUnbar p s
  | .recordTake p => Sys2Proof.Machine.execRecordTake p s
  | .meterSetup p => Sys2Proof.Machine.execMeterSetup p s
  | .sessionRead p => Sys2Proof.Machine.execSessionRead p s
  | .accountRead p => Sys2Proof.Machine.execAccountRead p s
  | .routeRead p => Sys2Proof.Machine.execRouteRead p s
  | .linkRead p => Sys2Proof.Machine.execLinkRead p s
  | .zoneRead p => Sys2Proof.Machine.execZoneRead p s
  | .setLevel p => Sys2Proof.Machine.execSetLevel p s
  | .noticeSetup p => Sys2Proof.Machine.execNoticeSetup p s
  | .countersRead p => Sys2Proof.Machine.execCountersRead p s
  | .portReset p => Sys2Proof.Machine.execPortReset p s
  | .carrierLoss k => Sys2Proof.Machine.execCarrierLoss k s
  | .carrierRegain k => Sys2Proof.Machine.execCarrierRegain k s
  | .warmUpDeadline k => Sys2Proof.Machine.execWarmUpDeadline k s
  | .lingerDeadline k => Sys2Proof.Machine.execLingerDeadline k s
  | .staleExpiry => Sys2Proof.Machine.execStaleExpiry s
  | .drainDeadline r => Sys2Proof.Machine.execDrainDeadline r s
  | .probationDeadline r => Sys2Proof.Machine.execProbationDeadline r s
  | .settleDeadline r => Sys2Proof.Machine.execSettleDeadline r s
  | .parkDeadline h => Sys2Proof.Machine.execParkDeadline h s
  | .intervalDeadline slot => Sys2Proof.Machine.execIntervalDeadline slot s
  | .pacingDeadline p => Sys2Proof.Machine.execPacingDeadline p s
  | .voyageClockTick => Sys2Proof.Machine.execVoyageClockTick s
  | .uplinkFrame tag source length => Sys2Proof.Machine.execUplinkFrame tag source length s
  | .downlinkFrame k destination c length => Sys2Proof.Machine.execDownlinkFrame k destination c length s
  | .transmitOpportunity k => Sys2Proof.Machine.execTransmitOpportunity k s
  | .deliveryOpportunity => Sys2Proof.Machine.execDeliveryOpportunity s
  | .noticeChoice p => Sys2Proof.Machine.execNoticeChoice p s

end Sys2Proof.Machine
end

