-- ==== Sys2Proof/Machine/Idle.lean ====
section
/-! DEFINITION. What the block does when no command waits (DESIGN CHOICE, log entry 2): it posts the commands of its own
that are due, and where none is, a millisecond of timer time passes. The table has no row for a tick. -/

namespace Sys2Proof.Machine

/-- The command that takes a request of a row on a port. -/
def Request.command (q : Request) (p : Port) : Instr :=
  match q with
  | .invalid => .invalidRequest p
  | .attach => .attach p
  | .detach => .detach p
  | .bearerAdd => .bearerAdd p
  | .bearerDrop => .bearerDrop p
  | .resume => .resume p
  | .linkSetup => .linkSetup p
  | .linkTune => .linkTune p
  | .linkPowerOn => .linkPowerOn p
  | .linkPowerOff => .linkPowerOff p
  | .linkStatusUp => .linkStatusUp p
  | .linkStatusDown => .linkStatusDown p
  | .linkReport => .linkReport p
  | .position => .position p
  | .zoneLoad => .zoneLoad p
  | .swapRoute => .swapRoute p
  | .swapRouteForce => .swapRouteForce p
  | .storeSetup => .storeSetup p
  | .clockSet => .clockSet p
  | .start => .start p
  | .tariffLoad => .tariffLoad p
  | .routePolicy => .routePolicy p
  | .accountOpen => .accountOpen p
  | .accountClose => .accountClose p
  | .accountCredit => .accountCredit p
  | .accountSet => .accountSet p
  | .sessionBar => .sessionBar p
  | .sessionUnbar => .sessionUnbar p
  | .recordTake => .recordTake p
  | .meterSetup => .meterSetup p
  | .sessionRead => .sessionRead p
  | .accountRead => .accountRead p
  | .routeRead => .routeRead p
  | .linkRead => .linkRead p
  | .zoneRead => .zoneRead p
  | .setLevel => .setLevel p
  | .noticeSetup => .noticeSetup p
  | .countersRead => .countersRead p
  | .portReset => .portReset p

/-- The request a port would take: the head of its inbound queue, where the outbound queue has room (R149). -/
def State.dueRequest (s : State) (p : Port) : List Instr :=
  let x := s.port p
  match x.inbound with
  | m :: _ => if x.outbound.length < Config.outboundCapacity then [(requestOf m).command p] else []
  | [] => []

/-- The port's arbiter would choose a notice (R166). -/
def State.choiceDue (s : State) (p : Port) : Bool :=
  decide ((s.port p).outbound.length < Config.outboundCapacity) && (s.port p).chosen.isSome

def handles : List (Fin 512) := List.ofFn id
def contextSlots : List (Fin 64) := List.ofFn id

/-- The deadlines that stand and have been reached. -/
def State.dueDeadlines (s : State) : List Instr :=
  (allLinks.filter s.warmUpDue).map .warmUpDeadline ++ (allLinks.filter s.lingerDue).map .lingerDeadline
    ++ (if s.staleDue then [.staleExpiry] else [])
    ++ (allRoutes.filter s.drainDue).map .drainDeadline ++ (allRoutes.filter s.probationDue).map .probationDeadline
    ++ (allRoutes.filter s.settleDue).map .settleDeadline
    ++ (handles.filter fun h => s.parkDue h.val).map .parkDeadline
    ++ (contextSlots.filter fun i => s.intervalDue i.val).map .intervalDeadline
    ++ (allPorts.filter s.pacingDue).map .pacingDeadline
    ++ (if s.voyageDue then [.voyageClockTick] else [])

/-- The commands the block has due of its own accord: requests to take, deadlines reached, notices to choose. -/
def State.dueCommands (s : State) : List Instr :=
  allPorts.flatMap s.dueRequest ++ s.dueDeadlines ++ (allPorts.filter s.choiceDue).map .noticeChoice

/-- A step with no command waiting: what is due is posted, or a millisecond passes. -/
def idle (s : State) : State :=
  match s.dueCommands with
  | [] => { s with now := s.now + 1 }
  | due => { s with pending := due }

end Sys2Proof.Machine
end

