-- ==== Sys2Proof/Safety.lean ====
section
/-! DEFINITION. The terms statements speak in: what a command leaves alone, how a request is answered, and what holds of the
part at all times. -/

namespace Sys2Proof.Machine

/-! ### What a command leaves alone -/

/-- The two states agree on everything but what is held of the ports. -/
def SameButPorts (s t : State) : Prop := { t with ports := s.ports } = s

/-- Timer time, the clock, the service, the parameters and the waiting commands are the same. -/
def SameSettings (s t : State) : Prop :=
  t.now = s.now ∧ t.clock = s.clock ∧ t.service = s.service ∧ t.ageLimits = s.ageLimits ∧ t.poolShare = s.poolShare
    ∧ t.meter = s.meter ∧ t.tariff = s.tariff ∧ t.pending = s.pending

/-- The two states agree on everything that the route unit and the link manager do not write, what is held of the ports
apart: links, routes, the links' queues and the counters may differ. -/
def SameOffPaths (s t : State) : Prop :=
  { t with links := s.links, routes := s.routes, queues := s.queues, counters := s.counters, ports := s.ports } = s

/-- Links, routes and the frames queued on links are the same. -/
def SamePaths (s t : State) : Prop := t.links = s.links ∧ t.routes = s.routes ∧ t.queues = s.queues

/-- Sessions, the bearer map and the cell-side pool are the same. -/
def SameSessions (s t : State) : Prop := t.sessions = s.sessions ∧ t.bearerMap = s.bearerMap ∧ t.pool = s.pool

/-- Contexts, accounts and records are the same. -/
def SameMoney (s t : State) : Prop :=
  t.slots = s.slots ∧ t.openList = s.openList ∧ t.sealList = s.sealList ∧ t.accounts = s.accounts ∧ t.crq = s.crq

/-- Every link but one is the same, with its queues. -/
def SameLinksBut (k : LinkId) (s t : State) : Prop := ∀ j, j ≠ k → t.link j = s.link j ∧ t.linkQueues j = s.linkQueues j

/-- Every route but one is the same. -/
def SameRoutesBut (r : RouteId) (s t : State) : Prop := ∀ q, q ≠ r → t.route q = s.route q

/-- No session is CLOSING: no event finishes one. -/
def NoneClosing (s : State) : Prop := ∀ h x, s.session h = some x → x.phase.isClosing = false

/-- Every CLOSING session waits for a frame of its own to leave, or, with no context OPEN, for a SEALED one (R77, R78): as
the state stands none of them comes to its end. -/
def ClosingsWait (s : State) : Prop :=
  ∀ h x, s.session h = some x → x.phase.isClosing = true →
    0 < s.queuedFrames h ∨ (s.openContexts h = 0 ∧ 0 < s.sealedContexts h)

/-- A state between events: no occurrence is left to gather, and no closing can come to its end. -/
def Rested (s : State) : Prop := s.raised = [] ∧ ClosingsWait s

/-- A state between events in which no session is CLOSING. -/
def Calm (s : State) : Prop := s.raised = [] ∧ NoneClosing s

/-- The frames of a session that wait on links. -/
def State.linkFrames (s : State) (h : Nat) : Nat :=
  (allLinks.map fun k => countFrames (s.linkQueues k).frames fun f => f.session = h).sum

/-! ### Ports -/

/-- What the controller behind a port has set, and what the port keeps for it, its notices apart. -/
def PortState.settings (x : PortState) : Bool × Sync × Nat × Nat × Table (BitVec 40) × List (NoticeKind × Nat) :=
  (x.startFlag, x.sync, x.level, x.pacing, x.baselines, x.slots.map fun sl => (sl.kind, sl.level))

/-- Some messages are all notices. -/
def OnlyNotices (l : List Message) : Prop := ∀ m ∈ l, m.mtype = 3

/-- A port has at most had notices appended to its outbound queue. -/
def PortKept (x y : PortState) : Prop :=
  y.settings = x.settings ∧ y.inbound = x.inbound ∧ ∃ sent, y.outbound = x.outbound ++ sent ∧ OnlyNotices sent

/-- A port has had the head of its inbound queue answered (R149): the response is behind what was queued, and in front of
any notice chosen after it. -/
def PortAnswered (x y : PortState) (response : Message) : Prop :=
  y.inbound = x.inbound.tail ∧ ∃ sent, y.outbound = x.outbound ++ response :: sent ∧ OnlyNotices sent

/-- The request `m` at the head of a port's inbound queue has been answered with a code and a body, the header as it stands
after the request (R149, R160), and the settings of every port are the same. -/
def Answered (p : Port) (m : Message) (code : ResponseCode) (body : List Byte) (s t : State) : Prop :=
  PortAnswered (s.port p) (t.port p) (responseTo p m code body t) ∧ (t.port p).settings = (s.port p).settings
    ∧ ∀ q, q ≠ p → PortKept (s.port q) (t.port q)

/-- No occurrence has been gathered: what is pending was pending before, as it stands. -/
def Quiet (s t : State) : Prop := ∀ p, ∀ sl ∈ (t.port p).slots, sl.pending.isSome = true → sl ∈ (s.port p).slots

/-- A request of a row stands at the head of a port's inbound queue, with room for its response, on a port that may send
it, its body no longer than it may be (R149, R152). -/
abbrev Presented (q : Request) (p : Port) (m : Message) (s : State) : Prop :=
  s.headRequest p q = some m ∧ permitted q p = true ∧ m.body.length ≤ bodyLimit q

/-- A request at the head of a port's inbound queue is answered, and nothing else is changed: a refusal, or a request that
is answered OK with no effect (R151). -/
def AnsweredOnly (q : Request) (p : Port) (m : Message) (code : ResponseCode) (body : List Byte) (s : State) : Prop :=
  ∃ t, exec (q.command p) s = .next t ∧ SameButPorts s t ∧ Answered p m code body s t ∧ Quiet s t

/-- The body has the form of the request's fields (R149 step 3, R160). -/
def Request.reads (q : Request) (body : List Byte) : Bool :=
  match q with
  | .invalid => false
  | .attach => (readAttach body).isSome
  | .bearerAdd => (readBearerAdd body).isSome
  | .bearerDrop => (readBearerDrop body).isSome
  | .linkSetup => (readLinkSetup body).isSome
  | .linkTune => (readLinkTune body).isSome
  | .linkPowerOn | .linkPowerOff | .linkStatusUp | .linkStatusDown => (readLinkName body).isSome
  | .linkReport => (readLinkReport body).isSome
  | .position => (readPosition body).isSome
  | .zoneLoad => (readZoneLoad body).isSome
  | .swapRoute | .swapRouteForce => (readSwap body).isSome
  | .clockSet => (readOne 4 body).isSome
  | .start | .portReset => (readNothing body).isSome
  | .tariffLoad => (readTariffLoad body).isSome
  | .routePolicy => (readPolicy body).isSome
  | .accountOpen => (readAccountOpen body).isSome
  | .accountCredit => (readCredit body).isSome
  | .accountSet => (readAccountSet body).isSome
  | .sessionBar | .sessionUnbar => (readBar body).isSome
  | .meterSetup => (readMeterSetup body).isSome
  | .sessionRead => (readSessionName body).isSome
  | .zoneRead => (readZoneRead body).isSome
  | .noticeSetup => (readNoticeSetup body).isSome
  | .detach | .resume | .storeSetup | .accountClose | .accountRead => (readOne 2 body).isSome
  | .recordTake | .routeRead | .linkRead | .setLevel | .countersRead => (readOne 1 body).isSome

/-- The handle by which a request names a session (R67). -/
def Request.handle (q : Request) (body : List Byte) : Option Nat :=
  match q with
  | .detach | .resume => readOne 2 body
  | .bearerAdd => (readBearerAdd body).map (·.handle)
  | .bearerDrop => (readBearerDrop body).map (·.1)
  | .sessionBar | .sessionUnbar => (readBar body).map (·.1)
  | _ => none

/-- A port's notice settings (R163 to R165): level and pacing in range, a slot for each kind of the port in kind order, URGENT
exactly where Table 10-1 says so, every level 1 to 4, and every count 1 to 255 (R161). -/
def NoticesLawful (s : State) : Prop :=
  ∀ p, (s.port p).level ≤ 3 ∧ (s.port p).pacing ≤ 1000
    ∧ ((s.port p).slots.map fun sl => (sl.kind, decide (sl.level = 4)))
        = ((defaultLevels p).map fun x => (x.1, decide (x.2 = 4)))
    ∧ ∀ sl ∈ (s.port p).slots, 1 ≤ sl.level ∧ sl.level ≤ 4 ∧ ∀ g, sl.pending = some g → 1 ≤ g.count ∧ g.count ≤ 255

/-- What a slot of a kind has gathered on a port. -/
def State.gathered (s : State) (p : Port) (k : NoticeKind) : Option Gathered :=
  ((s.port p).slots.find? fun sl => decide (sl.kind = k)).bind (·.pending)

/-- A port has been told what a slot holds: the slot is pending with it, or the notice that carries it has been appended to
the outbound queue since (R161, R166). -/
def Told (t : State) (p : Port) (k : NoticeKind) (g : Gathered) : Prop :=
  t.gathered p k = some g ∨ ∃ level, noticeMessage p ⟨k, level, some g⟩ g t ∈ (t.port p).outbound

/-- One occurrence of a kind, with a subject, has been gathered on a port on top of what its slot held before (R161). -/
def ToldOnce (s t : State) (p : Port) (k : NoticeKind) (subject : Nat) : Prop :=
  Told t p k (gatherInto subject s.now (s.gathered p k))

/-- What a slot holds after one occurrence for each subject in turn (R161). -/
def gatherEach (now : Nat) (subjects : List Nat) (held : Option Gathered) : Option Gathered :=
  subjects.foldl (fun g subject => some (gatherInto subject now g)) held

/-- One occurrence of a kind for each subject in turn, and no other, has been gathered on a port on top of what its slot held
before (R161). -/
def ToldEach (s t : State) (p : Port) (k : NoticeKind) (subjects : List Nat) : Prop :=
  match gatherEach s.now subjects (s.gathered p k) with
  | some g => Told t p k g
  | none => t.gathered p k = none

/-- Flags and causes that an event brought up have been told, one occurrence each: FUNDS_OUT and LOW_BALANCE on PP for an
account whose flag passed from clear to set (R137), SESSION_RESTRICTED on RP for a session, ACTIVE or PARKED, that gained FUNDS or
ROAMING (R79, R84). Where there are several subjects their order is left open. -/
def GainsTold (s t : State) : Prop :=
  ∃ funds low restricted : List Nat, funds.Nodup ∧ low.Nodup ∧ restricted.Nodup
    ∧ (∀ a, a ∈ funds ↔ (s.account a).funds = false ∧ (t.account a).funds = true)
    ∧ (∀ a, a ∈ low ↔ (s.account a).low = false ∧ (t.account a).low = true)
    ∧ (∀ h, h ∈ restricted ↔ ∃ x y, s.session h = some x ∧ t.session h = some y ∧ y.phase.isClosing = false
        ∧ (x.causes.funds = false ∧ y.causes.funds = true ∨ x.causes.roaming = false ∧ y.causes.roaming = true))
    ∧ ToldEach s t .pp .fundsOut funds ∧ ToldEach s t .pp .lowBalance low ∧ ToldEach s t .rp .sessionRestricted restricted

/-- ROUTE_DARK has followed the routes on RP and LP (R64, R162): one occurrence for each route that entered DARK, in the order of
the routes; with no route left DARK the condition is withdrawn. -/
def DarkTold (s t : State) : Prop :=
  ∀ p, p ≠ .pp →
    ((∃ r, t.dark r = true) →
        ToldEach s t p .routeDark ((allRoutes.filter fun r => t.dark r && !s.dark r).map (·.val)))
    ∧ ((∀ r, t.dark r = false) → (∃ r, s.dark r = true) → t.gathered p .routeDark = none)

/-- COVERAGE_OFF has followed a crossing to a segment with an index (R16, R162): told where the part comes into silence, withdrawn
where it leaves it. -/
def CoverageTold (g : Segment) (index : Nat) (s t : State) : Prop :=
  (s.silent = false → g.silent = true → ToldOnce s t .rp .coverageOff index)
    ∧ (s.silent = true → g.silent = false → t.gathered .rp .coverageOff = none)

/-- What a port reset leaves of the port itself (R158 steps 1 to 6, R168, R171): an empty inbound queue, default notice
settings, no start flag, baselines at the counters, and each holding condition told afresh. -/
def PortCleared (p : Port) (s t : State) : Prop :=
  (t.port p).inbound = []
    ∧ (t.port p).settings = (false, (t.port p).sync, 3, 0, s.counters, defaultLevels p)
    ∧ (t.port p).pacingDeadline = none
    ∧ ∀ k, if k ∈ conditionKinds p ∧ s.holds k = true then Told t p k ⟨1, s.conditionSubject k, s.now⟩
           else t.gathered p k = none

/-! ### Sessions -/

/-- Check 3 of ATTACH (R70). -/
def AttachValid (f : AttachFields) : Prop :=
  f.group < 8 ∧ f.account < 256 ∧ f.address ≠ 0 ∧ 1 ≤ f.bearers.length ∧ f.bearers.length ≤ 4
    ∧ ∀ b ∈ f.bearers, b.1 < 2048 ∧ b.2 < 4

/-- The first four checks of ATTACH pass (R70). -/
def AttachPassesFour (f : AttachFields) (s : State) : Prop :=
  s.service = .serving ∧ s.silent = false ∧ AttachValid f ∧ (s.account f.account).isOpen = true

/-- No session holds the digest or the address of an ATTACH (R71). -/
def AttachIdentityFree (f : AttachFields) (s : State) : Prop :=
  ∀ h x, s.session h = some x → x.digest ≠ f.digest ∧ x.address ≠ f.address

/-- A tag of an ATTACH is free of conflict (R71): not mapped, and not repeated in the request's own list. -/
def AttachTagFree (f : AttachFields) (s : State) (tag : Nat) : Prop :=
  s.tagEntry tag = none ∧ (f.bearers.map (·.1)).count tag ≤ 1

/-- A session has entered CLOSING for a reason, or gone on to FREE, in one event (R76 to R78): its tags are FREE, its frames in
the pool are gone and counted, and its frames on links stay. While some are there it waits for them; with none left it is FREE
exactly when no context of it remains. -/
def SessionClosed (h : Nat) (x : Session) (why : SessionClose) (s t : State) : Prop :=
  SameSettings s t ∧ t.zone = s.zone ∧ SamePaths s t
    ∧ (∀ tag, t.tagEntry tag = if tag ∈ x.bearers.map (·.tag) then none else s.tagEntry tag)
    ∧ (∀ c, t.pool.get c = (s.pool.get c).filter fun f => decide (f.session ≠ h))
    ∧ t.counter .poolGone = s.counter .poolGone + BitVec.ofNat 40 (countFrames s.pool fun f => f.session = h)
    ∧ (∀ c, c ≠ .poolGone → t.counter c = s.counter c)
    ∧ (0 < s.linkFrames h → t.session h = some { x with phase := .closing why, bearers := [] })
    ∧ (s.linkFrames h = 0 → (t.session h = none ↔ t.openContexts h + t.sealedContexts h = 0))
    ∧ (0 < s.linkFrames h ∨ s.openContexts h = 0 → SameMoney s t ∧ ∀ j, j ≠ h → t.session j = s.session j)

/-- Every session has answered a crossing to a segment (R82, R84, R85): ROAMING follows the new zone, and where the segment is
silent an ACTIVE session is PARKED, its frames in the pool gone. A CLOSING session of which the crossing took the last frame may
have become FREE (R78). -/
def SessionsCrossed (g : Segment) (s t : State) : Prop :=
  (∀ h x, s.session h = some x →
    (x.phase.isClosing = true ∧ t.session h = none ∧ t.queuedFrames h = 0) ∨ ∃ y, t.session h = some y
      ∧ y.phase = (if g.silent = true ∧ x.phase = .active then .parked (s.now + x.parkHold * 1000) else x.phase)
      ∧ y.causes.roaming = decide ((t.currentEntry x.group).permission ≠ .allow)
      ∧ y.causes.barred = x.causes.barred ∧ y.bearers = x.bearers
      ∧ (g.silent = true → x.phase = .active → ∀ c, ∀ f ∈ t.pool.get c, f.session ≠ h))
    ∧ ∀ h, s.session h = none → t.session h = none

/-! ### Links -/

/-- A link record as entry to WARMING leaves it at a time, with a warm-up time (R25). -/
def Link.onWarmUp (l : Link) (now warmUp : Nat) : Link :=
  { l with state := .warming, enable := true, quality := 512, degraded := decide (512 < l.qd), fit := decide (l.qu ≤ 512),
           warmUpDeadline := some (now + warmUp * 1000), lingerDeadline := none }

/-- Judging a link again leaves its fit flag as it was, or the route unit does not answer since the service is CONFIGURING:
nothing is handed on (R34, R38). -/
def State.keepsFit (s : State) (k : LinkId) (fit : Bool) : Prop := fit = (s.link k).fit ∨ s.service = .configuring

/-- A link that is not OFF or RETIRING holds the quality and the fitness it was judged with, and a degraded flag that follows
(R34, R35), whatever the route unit does then. One that became fit while OFF may have been powered on for a route since (R25,
R44); so may one that became fit while RETIRING and went OFF in the event, where another link's Qu exceeds the seed. -/
def JudgedOrWoken (k : LinkId) (q : Nat) (fit : Bool) (s t : State) : Prop :=
  ((t.link k).quality = q ∧ (t.link k).fit = fit ∧ (t.link k).degraded = decide (q < (t.link k).qd))
    ∨ (s.service = .serving ∧ (s.link k).fit = false ∧ fit = true
        ∧ ((s.link k).state = .off ∨ ((s.link k).state = .retiring ∧ ∃ j, j ≠ k ∧ 512 < (t.link j).qu))
        ∧ t.link k = (t.link k).onWarmUp s.now ((s.link k).warmUp.getD 0))

/-- A link that became unfit in SERVING is left by every route: none is bound to it, none waits for it (R34). -/
def LeftIfUnfit (k : LinkId) (fit : Bool) (s t : State) : Prop :=
  (s.link k).fit = true → fit = false → s.service = .serving →
    ∀ r, (t.route r).bound ≠ some k ∧ (t.route r).waitsFor k = false

/-- A link has gone OFF, and no route waits for it (R23, R32, R47); only where another link's Qu exceeds the seed may it have
been powered on again in the event, for a route that lost such a link. -/
def OffOrWokenAgain (k : LinkId) (s t : State) : Prop :=
  (t.link k = { s.link k with state := .off, enable := false, warmUpDeadline := none, lingerDeadline := none }
      ∧ (s.service = .serving → ∀ r, (t.route r).waitsFor k = false))
    ∨ (s.service = .serving ∧ (∃ j, j ≠ k ∧ 512 < (s.link j).qu)
        ∧ t.link k = (s.link k).onWarmUp s.now ((s.link k).warmUp.getD 0))

/-- A link has gone OFF with no route waiting for it (R23, R32): its enable line and deadlines go; of the routes only settle
candidates change, and no route that is IDLE and bound holds the link as one. -/
def LinkWentOff (k : LinkId) (s t : State) : Prop :=
  (∀ j, t.link j = if j = k then { s.link k with state := .off, enable := false, warmUpDeadline := none, lingerDeadline := none }
                   else s.link j)
    ∧ t.queues = s.queues ∧ t.counters = s.counters ∧ SameOffPaths s t ∧ Quiet s t
    ∧ ∀ r, { t.route r with settle := (s.route r).settle } = s.route r
        ∧ (s.service = .serving → (s.route r).swap = .idle → (s.route r).bound.isSome = true →
            (t.route r).settle.map (·.1) ≠ some k)

/-! ### Swaps -/

/-- A route record as chapter 03 keeps it: times and mask in range (R39), what is present by swap state (section 4.5), an IDLE
bound route on its last good link, no drain on the bound link. -/
def Route.lawful (x : Route) : Prop :=
  x.permitted.toNat < 64 ∧ (1 ≤ x.drainLimit ∧ x.drainLimit ≤ 60) ∧ (5 ≤ x.probationTime ∧ x.probationTime ≤ 120)
    ∧ (5 ≤ x.settleTime ∧ x.settleTime ≤ 600)
    ∧ (x.settle.isSome = true → x.swap = .idle ∧ x.bound.isSome = true)
    ∧ (x.swap = .idle → x.bound.isSome = true → x.lastGood = x.bound)
    ∧ (∀ t, x.swap = .waking .routine t → x.bound.isSome = true ∧ x.lastGood = x.bound ∧ x.bound ≠ some t)
    ∧ (∀ t, x.swap = .waking .forced t → x.bound = none)
    ∧ (∀ k d, x.swap = .probation k d → x.bound.isSome = true)
    ∧ (∀ k d, x.draining = some (k, d) → x.bound ≠ some k)

def RoutesLawful (s : State) : Prop := ∀ r, (s.route r).lawful

/-- A forced cause on a route's bound link is answered by a forced selection (R50, R52, R53): no probation is rolled back, and
no drain that the release may supersede keeps a RETIRING link from OFF. -/
def State.strikeSelects (s : State) (r : RouteId) (b : LinkId) : Prop :=
  (∀ kind d g, (s.route r).swap = .probation kind d → (s.route r).lastGood = some g → g ≠ b → s.ready g = true →
      s.candidate r none g = false)
    ∧ ∀ j d, (s.route r).draining = some (j, d) → (s.link j).state ≠ .retiring

/-- The link a SWAP_ROUTE starts a swap to (R55 to R57): a named candidate that is not the bound link, or what the selection for
AUTO (255) returns: on a DARK route another link than the one waited for; on a bound one, without FORCE, another link than the
bound one; on a bound one, with FORCE, where a forced cause makes a selection. -/
def SwapChooses (force : Bool) (n : Nat) (r : RouteId) (k : LinkId) (s : State) : Prop :=
  (n = k.val ∧ (s.route r).bound ≠ some k ∧ s.candidate r none k = true)
    ∨ (n = 255 ∧ (s.route r).bound = none ∧ (s.route r).waitsFor k = false ∧ s.forcedSelection r none = some k)
    ∨ (n = 255 ∧ force = false ∧ ∃ b, (s.route r).bound = some b ∧ b ≠ k ∧ s.routineSelection r none = some k)
    ∨ (n = 255 ∧ force = true ∧ ∃ b, (s.route r).bound = some b ∧ s.strikeSelects r b ∧ s.forcedSelection r (some b) = some k)

/-- A link that a selection may power on stays fit as it enters WARMING (R25): its Qu is not above the seed. -/
def WakesFit (s : State) : Prop := ∀ k, (s.link k).state = .off → (s.link k).fit = true → (s.link k).qu ≤ 512

/-- No route drains on a RETIRING link: no drain superseded in an event puts such a link OFF (R24, R45). -/
def NoDrainRetires (s : State) : Prop := ∀ r k d, (s.route r).draining = some (k, d) → (s.link k).state ≠ .retiring

/-- A swap of a route to a link has been started (R44, R46): to a ready link by a cutover, else in WAKING with the binding left
as `stays`, a link that was OFF being powered on. -/
def SwapStarted (r : RouteId) (kind : SwapKind) (stays : Option LinkId) (k : LinkId) (s t : State) : Prop :=
  (s.ready k = true → (t.route r).bound = some k
      ∧ (t.route r).swap = .probation kind (s.now + (s.route r).probationTime * 1000))
    ∧ (s.ready k = false → (t.route r).bound = stays ∧ (t.route r).swap = .waking kind k
      ∧ ((s.link k).state = .off → ∀ w, (s.link k).warmUp = some w → t.link k = (s.link k).onWarmUp s.now w))

/-- A route is IDLE and bound to a link, and the settle evaluation has been made (R60): a preferred candidate that was recorded
already keeps its deadline, another one is given a fresh one. -/
def StaysIdle (r : RouteId) (b : LinkId) (s t : State) : Prop :=
  (t.route r).bound = some b ∧ (t.route r).swap = .idle
    ∧ (t.route r).settle = (s.preferred r b).map fun p =>
        match (s.route r).settle with
        | some (q, d) => if q = p then (q, d) else (p, s.now + (s.route r).settleTime * 1000)
        | none => (p, s.now + (s.route r).settleTime * 1000)

/-- A route bound to a link has answered a routine selection, with at most one link excluded (R42, R58, R59), or none was called for:
a result other than the bound link is swapped to, else the route stays IDLE. -/
def RoutineChosen (r : RouteId) (excluded : Option LinkId) (b : LinkId) (select : Bool) (s t : State) : Prop :=
  match if select then s.routineSelection r excluded else none with
  | some k => if k = b then StaysIdle r b s t else SwapStarted r .routine (some b) k s t
  | none => StaysIdle r b s t

/-- A forced selection, with at most one link excluded, has been answered for a route that is unbound, or has lost its target (R43,
R47, R50, R52, R53): with no result the route is IDLE and DARK. -/
def ForcedChosen (r : RouteId) (excluded : Option LinkId) (s t : State) : Prop :=
  match s.forcedSelection r excluded with
  | some k => SwapStarted r .forced none k s t
  | none => (t.route r).bound = none ∧ (t.route r).swap = .idle

/-- A DARK route has reselected (R62): a result it does not wait for already is swapped to, else it waits on or stays IDLE. -/
def DarkReselected (r : RouteId) (s t : State) : Prop :=
  match s.forcedSelection r none with
  | some k =>
    if (s.route r).waitsFor k then (t.route r).bound = none ∧ (t.route r).swap = (s.route r).swap
    else SwapStarted r .forced none k s t
  | none => (t.route r).bound = none ∧ (t.route r).swap = (s.route r).swap

/-- A swap that is in hand goes on; where a routine selection finds another link than the one the route is on its way to,
reselect pending is set (R58). -/
def SwapGoesOn (r : RouteId) (than : LinkId) (s t : State) : Prop :=
  (t.route r).bound = (s.route r).bound ∧ (t.route r).swap = (s.route r).swap
    ∧ (t.route r).reselect = ((s.route r).reselect || (s.routineSelection r none).any fun k => decide (k ≠ than))

/-- A route is bound, and has in hand, what it was bound to and had in hand. -/
def Undisturbed (r : RouteId) (s t : State) : Prop :=
  (t.route r).bound = (s.route r).bound ∧ (t.route r).swap = (s.route r).swap ∧ (t.route r).reselect = (s.route r).reselect

/-- A forced cause has struck the bound link of a route in PROBATION (R51, R52): it is rolled back to its last good link, where that
is another link, ready and a candidate, and settles there or reselects; else a forced selection is made. -/
def ProbationStruck (r : RouteId) (b : LinkId) (s t : State) : Prop :=
  (∀ g, (s.route r).lastGood = some g → g ≠ b → s.ready g = true → s.candidate r none g = true →
      RoutineChosen r none g (s.route r).reselect s t)
    ∧ ((∀ g, (s.route r).lastGood = some g → g ≠ b → s.ready g = true → s.candidate r none g = false) →
        ForcedChosen r (some b) s t)

/-- A route that has left its bound link drains there while it holds frames of the route (R45); with reselect pending, where it may
have gone on from the link it was rolled back to, that is left out. -/
def LeavesDraining (r : RouteId) (s t : State) : Prop :=
  ∀ b, (s.route r).bound = some b → (t.route r).bound ≠ some b → (s.route r).reselect = false → 0 < s.routeFrames r b →
    (t.route r).draining = some (b, s.now + (s.route r).drainLimit * 1000)

/-- A route has answered a change of the links it may use by its state (R40, R58): `stays` says what it does IDLE on a link still
allowed, `goesOn` with a swap in hand to a link still allowed. A route of which the bound link and the target have both left is
struck as IDLE; with reselect pending that is left out. -/
def MaskAnswered (r : RouteId) (allowed : LinkId → Bool) (stays goesOn : LinkId → Prop) (s t : State) : Prop :=
  (match (s.route r).bound, (s.route r).swap with
    | some b, .idle => if allowed b then stays b else ForcedChosen r (some b) s t
    | none, .idle => ForcedChosen r none s t
    | none, .waking _ k => if allowed k then DarkReselected r s t else ForcedChosen r (some k) s t
    | some b, .waking _ k =>
      if allowed k then (if allowed b then goesOn k else ForcedChosen r (some b) s t)
      else if allowed b then RoutineChosen r (some k) b (s.route r).reselect s t
      else (s.route r).reselect = false → ForcedChosen r (some b) s t
    | some b, .probation _ _ => if allowed b then goesOn b else ProbationStruck r b s t
    | none, .probation _ _ => True)
  ∧ (t.route r).lastGood = (s.route r).lastGood ∧ LeavesDraining r s t

/-- A route has answered a crossing by its state (R58), the new segment being the current one in `s` already. -/
def CrossingAnswered (r : RouteId) (s t : State) : Prop :=
  MaskAnswered r s.usable (fun b => RoutineChosen r none b true s t) (fun k => SwapGoesOn r k s t) s t

/-- A route has answered a change of its permitted mask by its state (R40), the mask being in force in `s` already. -/
def PolicyAnswered (r : RouteId) (s t : State) : Prop :=
  MaskAnswered r (s.permits r) (fun b => StaysIdle r b s t) (fun _ => Undisturbed r s t) s t

/-- A route has answered the loss of a link by its state (R34, R47, R50 to R54, R60), the link being lost in `s` already: a forced
cause has struck it, or it has lost its target, or, IDLE and bound elsewhere, its settle evaluation has been made. -/
def LossAnswered (r : RouteId) (k : LinkId) (s t : State) : Prop :=
  (match (s.route r).bound, (s.route r).swap with
    | some b, .idle => if b = k then ForcedChosen r (some k) s t else StaysIdle r b s t
    | some b, .waking _ j =>
      if b = k then ForcedChosen r (some k) s t
      else if j = k then RoutineChosen r (some k) b (s.route r).reselect s t
      else Undisturbed r s t
    | none, .waking _ j => if j = k then ForcedChosen r (some k) s t else Undisturbed r s t
    | some b, .probation _ _ => if b = k then ProbationStruck r b s t else Undisturbed r s t
    | none, _ => Undisturbed r s t)
  ∧ (t.route r).lastGood = (s.route r).lastGood

/-- A forced cause on a route's bound link, where it has `gone`, is answered by a rollback (R51). -/
def State.rollsBackFrom (s : State) (gone : LinkId → Bool) (r : RouteId) : Bool :=
  match (s.route r).bound, (s.route r).swap, (s.route r).lastGood with
  | some b, .probation _ _, some g => gone b && decide (g ≠ b) && s.ready g && s.candidate r none g
  | _, _, _ => false

/-- SWAP_ROLLBACK has been told on LP (R51), one occurrence for each route that was rolled back, in the order of the routes, where
forced causes have struck the routes of links that have `gone` in `u`. -/
def RollbacksTold (gone : RouteId → LinkId → Bool) (u s t : State) : Prop :=
  ToldEach s t .lp .swapRollback ((allRoutes.filter fun r => u.rollsBackFrom (gone r) r).map (·.val))

/-- The routes have answered a change of a link's fitness, its record being `l` then (R34, R60, R62): with the link unfit each
answers its loss, and with it fit every DARK route reselects and every route IDLE and bound makes its settle evaluation. Stated in
SERVING, where no link that could be powered on has a Qu above the seed and no route drains on a RETIRING link. -/
def FitnessAnswered (k : LinkId) (l : Link) (s t : State) : Prop :=
  ∀ u, u = s.setLink k l → s.service = .serving → l.fit ≠ (s.link k).fit → RoutesLawful s → WakesFit u → NoDrainRetires s →
    (∀ r, if l.fit then
        ((s.route r).bound = none → (∀ kind d, (s.route r).swap ≠ .probation kind d) → DarkReselected r u t)
          ∧ ∀ b, (s.route r).bound = some b → (s.route r).swap = .idle → StaysIdle r b u t
      else LossAnswered r k u t ∧ LeavesDraining r s t)
    ∧ (NoticesLawful s → RollbacksTold (fun _ b => !l.fit && decide (b = k)) u s t)

/-- The routes have answered a link's going OFF (R23, R32, R47, R59, R60), and ROUTE_DARK has followed (R64). Stated as
`FitnessAnswered` is, and of routes that are not bound to the link. -/
def OffAnswered (k : LinkId) (s t : State) : Prop :=
  (∀ u, u = s.setLink k { s.link k with state := .off, enable := false, warmUpDeadline := none, lingerDeadline := none } →
      s.service = .serving → RoutesLawful s → WakesFit s → NoDrainRetires s →
      ∀ r, (s.route r).bound ≠ some k → LossAnswered r k u t)
    ∧ (NoticesLawful s → DarkTold s t)

/-- Drains run on through the failure of a link (R45, R49): one on that link has ended, and one on a link the route is bound to
again; with reselect pending, where a swap may have begun another, that is left out. -/
def DrainsRunOn (r : RouteId) (k : LinkId) (s t : State) : Prop :=
  (s.route r).reselect = false → (t.route r).draining =
    (s.route r).draining.filter fun x => decide (x.1 ≠ k ∧ (t.route r).bound ≠ some x.1)

/-- A link has failed (R30, R54, R106), with a carrier field: it is FAILED, its frames are lost and counted, its latches are
clear, no route is bound to it, waits for it or drains on it, and LINK_FAILED is raised. Every route has answered (stated where no
link that could be powered on has a Qu above the seed and no route drains on a RETIRING link), and SWAP_ROLLBACK and ROUTE_DARK are
told (R51, R64). -/
def LinkFailed (k : LinkId) (carrier : Bool) (s t : State) : Prop :=
  t.link k = { s.link k with state := .failed, carrier := carrier, warmUpDeadline := none, lingerDeadline := none }
    ∧ (∀ c, (t.linkQueues k).frames.get c = [] ∧ (t.linkQueues k).latch.get c = false
        ∧ t.counter (.failureLoss k c)
            = s.counter (.failureLoss k c) + BitVec.ofNat 40 ((s.linkQueues k).frames.get c).length)
    ∧ (s.service = .serving → ∀ r, (t.route r).bound ≠ some k ∧ (t.route r).waitsFor k = false
        ∧ (t.route r).draining.map (·.1) ≠ some k)
    ∧ (∀ u, u = s.setLink k (t.link k) → s.service = .serving → RoutesLawful s → WakesFit s → NoDrainRetires u →
        (∀ r, LossAnswered r k u t ∧ DrainsRunOn r k s t) ∧ RollbacksTold (fun _ b => decide (b = k)) u s t)
    ∧ ToldOnce s t .lp .linkFailed k.val ∧ DarkTold s t
    ∧ (NoneClosing s → SameOffPaths s t)

/-! ### Service start (R153, R155) -/

/-- The four conditions of the service start check (R153). -/
def State.readyToServe (s : State) : Prop :=
  s.zone.table ≠ [] ∧ (∃ x d, s.zone.tracker = .located x d) ∧ s.tariff.isSome = true
    ∧ ∀ q, q ≠ .rp → (s.port q).startFlag = true

/-- The service start check has been made at the end of an event that left its conditions, the links and the routes as in `u`
(R153, R155): from CONFIGURING the service enters SERVING exactly when they are met, and then every route, IDLE and DARK, makes the
forced selection of R62 and answers it, and ROUTE_DARK is told for each one left DARK (R64). -/
def StartChecked (u s t : State) : Prop :=
  (s.service = .serving ∨ ¬u.readyToServe → t.service = s.service)
    ∧ (s.service = .configuring → u.readyToServe → t.service = .serving
        ∧ (WakesFit s → ∀ r, (s.route r).bound = none → (s.route r).swap = .idle → ForcedChosen r none u t)
        ∧ (NoticesLawful s → DarkTold s t))

/-! ### The zone table (R3) -/

/-- A segment of a load fails a check of R3's table, given the start of the segment before it; the first two checks are not a
segment's own. -/
def RawSegment.fails (g : RawSegment) (before : Option Nat) : ZoneFault → Prop
  | .count | .firstStart => False
  | .order => ∃ start, before = some start ∧ ¬start < g.start
  | .tariffZone => 7 < g.zone
  | .prefLength => g.prefs = [] ∨ 4 < g.prefs.length
  | .prefLink => ∃ k ∈ g.prefs, 5 < k
  | .prefDuplicate => ¬g.prefs.Nodup
  | .prefUnusable => ∃ k ∈ g.prefs, g.usable.getLsbD k = false

/-! ### Metering (R115 to R123, R135) -/

/-- An account with a charge applied (R135) and its flags judged (R137). -/
def Account.charged (x : Account) (c : Nat) : Account :=
  let clipped := x.clipped || decide (281474976710655 < x.rated + c)
  let y : Account :=
    match x.kind with
    | some .prepaid =>
      { x with
        rated := min 281474976710655 (x.rated + c), balance := x.balance - c,
        shortfall := min 4294967295 (x.shortfall + (c - x.balance)),
        clipped := clipped || decide (4294967295 < x.shortfall + (c - x.balance)) }
    | some .postpaid =>
      { x with
        rated := min 281474976710655 (x.rated + c), spend := min 4294967295 (x.spend + c),
        clipped := clipped || decide (4294967295 < x.spend + c) }
    | _ => { x with rated := min 281474976710655 (x.rated + c), clipped := clipped }
  { y with funds := y.fundsLaw, low := y.lowLaw }

/-- A charge has been applied to one account, and no other account is changed. -/
def ChargeApplied (a c : Nat) (s t : State) : Prop :=
  ∀ b, t.account b = if b = a then (s.account a).charged c else s.account b

/-- Every slot but one is the same. -/
def SameSlotsBut (i : Nat) (s t : State) : Prop := ∀ j, j ≠ i → t.slot j = s.slot j

/-- A context has left the open list by closing (R122, R123): its residue is rounded, half a unit and more up, the unit is
charged to its account, and its USAGE record joins the queue, the slot being FREE, or, with the queue full, it is SEALED. -/
def ContextClosed (i : Nat) (x : Context) (why : CloseReason) (s t : State) : Prop :=
  ∀ unit, unit = (if 524288 ≤ x.residue then 1 else 0) →
  ∀ closed : Context, closed = { x with
    charge := min 4294967295 (x.charge + unit), residue := 0,
    clipped := x.clipped || decide (4294967295 < x.charge + unit) } →
  ∀ record : ChargeRecord, record = {
    kind := 1, reason := why.number, cls := x.cls.number, zone := x.zone, group := x.group.val, clipped := closed.clipped,
    clockUnset := !x.openTime.isSet || !s.clock.isSet, session := x.session, account := x.account,
    digest := ((s.session x.session).map (·.digest)).getD 0, openTime := x.openTime.seconds, closeTime := s.clock.seconds,
    bytesUp := x.bytesUp, bytesDown := x.bytesDown, charge := closed.charge } →
  ChargeApplied x.account unit s t ∧ t.openList = s.openList.filter (fun j => decide (j ≠ i)) ∧ SameSlotsBut i s t
    ∧ (s.crq.length < 256 → t.slot i = none ∧ t.crq = s.crq ++ [record] ∧ t.sealList = s.sealList)
    ∧ (256 ≤ s.crq.length → t.crq = s.crq ∧ t.sealList = s.sealList ++ [i]
        ∧ t.slot i = some (.sealed closed why ⟨s.clock.seconds, s.clock.isSet⟩ record))

/-- Contexts have closed one after another, each for its reason (R122, R125, R126), each offered to the queue as the ones before
it have left it; nothing else of contexts, accounts and records is changed. -/
def ContextsClosed : List (Nat × CloseReason) → State → State → Prop
  | [], s, t => SameMoney s t
  | (i, why) :: rest, s, t => ∀ x d, s.openContext i = some (x, d) →
      ∃ n, n = { s with slots := n.slots, openList := n.openList, sealList := n.sealList, crq := n.crq, accounts := n.accounts }
        ∧ ContextClosed i x why s n ∧ ContextsClosed rest n t

/-- What a crossing to a segment closes, in the order of the open list (R125, R127): PARK for the contexts of a session that is
ACTIVE where the segment is silent, ZONE for the others where the tariff zones differ or the old segment is absent. -/
def State.crossingClosings (s : State) (old : Option Segment) (new : Segment) : List (Nat × CloseReason) :=
  s.openList.filterMap fun i => (s.openContext i).bind fun x =>
    if new.silent && decide ((s.session x.1.session).map (·.phase) = some .active) then some (i, .park)
    else if old.map (·.zone) = some new.zone then none else some (i, .zone)

/-- A frame has been rated in the context of a slot, with its interval deadline (R118, R120): bytes, residue and charge go on,
the increment is charged to the account, and at the byte limit the context closes. -/
def FrameRated (i : Nat) (x : Context) (deadline : Nat) (d : Direction) (length : Nat) (s t : State) : Prop :=
  ∀ p, p = length * x.rate + x.residue →
  ∀ y : Context, y = { x with
    bytesUp := if d = .up then x.bytesUp + length else x.bytesUp
    bytesDown := if d = .up then x.bytesDown else x.bytesDown + length
    charge := min 4294967295 (x.charge + p / 1048576)
    residue := p % 1048576
    clipped := x.clipped || decide (4294967295 < x.charge + p / 1048576) } →
  (y.bytesUp + y.bytesDown < s.meter.byteLimit * 1048576 →
      ChargeApplied x.account (p / 1048576) s t ∧ t.slot i = some (.opened y deadline) ∧ SameSlotsBut i s t
        ∧ t.openList = s.openList ∧ t.sealList = s.sealList ∧ t.crq = s.crq)
    ∧ (s.meter.byteLimit * 1048576 ≤ y.bytesUp + y.bytesDown →
      ∃ n, n = { s with accounts := n.accounts } ∧ ChargeApplied x.account (p / 1048576) s n
        ∧ ContextClosed i y .byteLimit n t)

/-- A frame has been rated directly (R121, R136): its worth is rounded to the nearest unit, halves up, charged to the account
and carried there. -/
def FrameRatedDirectly (a rate : Nat) (d : Direction) (length : Nat) (s t : State) : Prop :=
  ∀ charge, charge = (length * rate + 524288) / 1048576 →
  (∀ b, t.account b = if b = a
    then ((s.account a).charged charge).carryUse d length charge ⟨s.clock.seconds, s.clock.isSet⟩ else s.account b)
    ∧ t.slots = s.slots ∧ t.openList = s.openList ∧ t.sealList = s.sealList ∧ t.crq = s.crq

/-- The rate of a session's frames of a class (R115). -/
def State.rateOf (s : State) (x : Session) (c : TrafficClass) : Nat :=
  if (s.account x.account).kind = some .crew then 0 else (s.currentEntry x.group).rates.get c

/-- The context that a frame of a session and class opens (R116). -/
def State.freshContext (s : State) (h : Nat) (x : Session) (c : TrafficClass) : Context :=
  { session := h, cls := c, zone := (s.currentZone.map (·.val)).getD 8, group := x.group, account := x.account,
    rate := s.rateOf x c, openTime := ⟨s.clock.seconds, s.clock.isSet⟩, bytesUp := 0, bytesDown := 0, charge := 0,
    residue := 0, clipped := false }

/-- There is no OPEN context of a session and class (R116). -/
def NoContextOpen (h : Nat) (c : TrafficClass) (s : State) : Prop :=
  ∀ i y deadline, s.openContext i = some (y, deadline) → ¬(y.session = h ∧ y.cls = c)

/-- No context slot is FREE (R117). -/
def NoSlotFree (s : State) : Prop := ∀ i, i < 64 → (s.slot i).isSome = true

/-- No context can be had for a frame (R117): it is rated directly. -/
def NoContextHad (h : Nat) (c : TrafficClass) (s : State) : Prop :=
  NoContextOpen h c s ∧ NoSlotFree s ∧ (s.openList = [] ∨ 256 ≤ s.crq.length)

/-- The meter has taken a frame of a session (R115 to R121): it is rated in the OPEN context of its session and class, else in
one opened in the lowest FREE slot, else in one opened where the oldest OPEN context has been evicted, else directly. -/
def FrameMetered (h : Nat) (x : Session) (c : TrafficClass) (d : Direction) (length : Nat) (s t : State) : Prop :=
  (∀ i y deadline, s.openContext i = some (y, deadline) → y.session = h → y.cls = c → FrameRated i y deadline d length s t)
    ∧ (NoContextOpen h c s →
        (∀ i, i < 64 → s.slot i = none → (∀ j, j < i → (s.slot j).isSome = true) →
          FrameRated i (s.freshContext h x c) (s.now + s.meter.interval * 1000) d length
            { s with openList := s.openList ++ [i] } t)
        ∧ (NoSlotFree s →
            (s.openList = [] → FrameRatedDirectly x.account (s.rateOf x c) d length s t)
            ∧ ∀ o rest y deadline, s.openList = o :: rest → s.openContext o = some (y, deadline) →
                ∃ n, n = { s with slots := n.slots, openList := n.openList, sealList := n.sealList, crq := n.crq,
                                  accounts := n.accounts }
                  ∧ ContextClosed o y .evict s n
                  ∧ (s.crq.length < 256 →
                      FrameRated o (s.freshContext h x c) (s.now + s.meter.interval * 1000) d length
                        { n with openList := n.openList ++ [o] } t)
                  ∧ (256 ≤ s.crq.length → FrameRatedDirectly x.account (s.rateOf x c) d length n t)))

/-- Charges have reached the sessions (R80): no session is changed but for FUNDS, which is its account's flag. -/
def FundsReached (s t : State) : Prop :=
  ∀ j, t.session j = (s.session j).map fun y =>
    { y with causes := { y.causes with funds := (t.account y.account).funds } }

/-- Closing sessions have come to their end with their last frame (R77, R78, R105): no context of theirs is OPEN, and they are
FREE unless one is SEALED. -/
def ClosingsEnded (s t : State) : Prop :=
  ∀ h x, s.session h = some x → x.phase.isClosing = true → t.queuedFrames h = 0 →
    t.openContexts h = 0 ∧ (t.session h = none ↔ t.sealedContexts h = 0)

/-! ### Frames leaving a link (R24, R31, R49, R105) -/

/-- Frames have left a link by sending or for age: a drain of which the last frame has gone ends, and a link without frames
that no route is bound to is STANDBY, or OFF from RETIRING. -/
def LinkLeft (k : LinkId) (s t : State) : Prop :=
  SameLinksBut k s t
    ∧ (∀ r, { t.route r with draining := (s.route r).draining, settle := (s.route r).settle } = s.route r
        ∧ ((s.link k).state ≠ .retiring → (t.route r).settle = (s.route r).settle)
        ∧ (t.route r).draining =
            if (s.route r).draining.map (·.1) = some k ∧ 0 < s.routeFrames r k ∧ t.routeFrames r k = 0 then none
            else (s.route r).draining)
    ∧ t.link k =
        if t.queuedOn k = 0 ∧ 0 < s.queuedOn k ∧ s.boundRoutes k = 0 then
          match (s.link k).state with
          | .active => { s.link k with
              state := .standby, warmUpDeadline := none,
              lingerDeadline := if (s.link k).linger = 0 then none else some (s.now + (s.link k).linger * 1000) }
          | .retiring => { s.link k with state := .off, enable := false, warmUpDeadline := none, lingerDeadline := none }
          | _ => s.link k
        else s.link k

/-- The admission floor of a link (R35, R101). -/
def State.floorOf (s : State) (k : LinkId) : Nat := if (s.link k).degraded then (s.link k).floor else 0

/-- A class of a link may be chosen (R101): its queue holds a frame and its level exceeds the floor. -/
def State.mayChoose (s : State) (k : LinkId) (c : TrafficClass) : Prop :=
  (s.linkQueues k).frames.get c ≠ [] ∧ s.floorOf k < (s.link k).levels.get c

/-- A class that may be chosen stands before another (R101): by its level, and among equals by the class order. -/
def State.before (s : State) (k : LinkId) (b c : TrafficClass) : Prop :=
  s.mayChoose k b ∧ ((s.link k).levels.get c < (s.link k).levels.get b
    ∨ (s.link k).levels.get b = (s.link k).levels.get c ∧ b.number < c.number)

/-- The age of a frame exceeds the limit of its class (R102). -/
def State.tooOld (s : State) (f : Frame) : Prop := s.ageLimits.get f.cls < s.now - f.arrival

/-! ### Accounts and records -/

/-- What waits for room in the record queue, in the order of R144: the SEALED contexts' records by the seal list, then a record
of each carry with a charge, by account number. -/
def State.waitingRecords (s : State) : List ChargeRecord :=
  (s.sealList.filterMap fun i => match s.slot i with
    | some (.sealed _ _ _ record) => some record
    | _ => none)
  ++ (s.accounts.entries.filter fun e => decide (0 < e.2.carry.charge)).map fun e => unrecordedRecord e.1 e.2.carry

/-- The first `room` things that wait have been taken (R128, R144): the oldest SEALED contexts' slots are FREE, the lowest
accounts' carries are clear, all others are as they were. -/
def WaitingTaken (room : Nat) (s t : State) : Prop :=
  t.sealList = s.sealList.drop room ∧ t.openList = s.openList
    ∧ (∀ i, t.slot i = if i ∈ s.sealList.take room then none else s.slot i)
    ∧ ∀ a, (t.account a).carry =
        if a ∈ ((s.accounts.entries.filter fun e => decide (0 < e.2.carry.charge)).map (·.1)).take (room - s.sealList.length)
        then .clear else (s.account a).carry

/-- One account has been moved to a record, and every session that names it carries FUNDS as the record's flag says (R80);
nothing else is changed. -/
def AccountMoved (a : Nat) (x : Account) (s t : State) : Prop :=
  t.account a = x ∧ (∀ b, b ≠ a → t.account b = s.account b)
    ∧ (∀ h, t.session h = (s.session h).map fun y =>
        if y.account = a then { y with causes := { y.causes with funds := x.funds } } else y)
    ∧ SameButPorts { s with accounts := t.accounts, sessions := t.sessions } t

/-! ### Charge (R146) -/

/-- The charge of an account's records in the queue. -/
def State.queuedCharge (s : State) (a : Nat) : Nat := ((s.recordsOf a).map (·.charge)).sum

/-- The context of a slot. -/
def Slot.context : Slot → Context
  | .opened x _ => x
  | .sealed x _ _ _ => x

/-- The charge of an account's contexts, OPEN and SEALED. -/
def State.contextCharge (s : State) (a : Nat) : Nat :=
  (s.slots.entries.map fun e => if e.2.context.account = a then e.2.context.charge else 0).sum

/-! ### What holds at all times -/

/-- The queues of the ports and the record queue hold no more than they may (R143, R147). -/
def QueuesInBounds (s : State) : Prop :=
  (∀ p, (s.port p).inbound.length ≤ 16 ∧ (s.port p).outbound.length ≤ 32) ∧ s.crq.length ≤ 256

/-- The sparse tables are in canonical form: keys rise strictly and lie in range, and no entry says what no entry says. -/
def TablesCanonical (s : State) : Prop :=
  s.sessions.wf 512 = true ∧ s.bearerMap.wf 2048 = true ∧ s.slots.wf 64 = true ∧ s.counters.wf 123 = true
    ∧ Table.risingKeys s.accounts.keys = true
    ∧ (∀ e ∈ s.accounts.entries, e.2 ≠ Account.reset) ∧ (∀ e ∈ s.counters.entries, e.2 ≠ 0)

/-- A link record as chapter 02 keeps it: the ranges of its fields, the marks within the share (R19), thresholds and quality
within 0..1023 (R21, R33), the degraded flag and the hysteresis of fitness (R34, R35), the enable line and the deadlines by
state (R25, R30, R32). -/
def Link.lawful (l : Link) : Prop :=
  (l.kind.isSome = true ↔ l.state ≠ .unconfigured) ∧ (l.warmUp.isSome = true ↔ l.state ≠ .unconfigured)
    ∧ (∀ w, l.warmUp = some w → 1 ≤ w ∧ w ≤ 600) ∧ l.linger ≤ 3600
    ∧ (∀ c, 0 < (l.marks.get c).low ∧ (l.marks.get c).low < (l.marks.get c).high ∧ (l.marks.get c).high ≤ l.share)
    ∧ (∀ c, 1 ≤ l.levels.get c ∧ l.levels.get c ≤ 3) ∧ l.floor ≤ 2
    ∧ l.qu + l.hq ≤ 1023 ∧ l.qd ≤ 1023 ∧ l.quality ≤ 1023
    ∧ l.degraded = decide (l.quality < l.qd)
    ∧ (l.fit = true → l.qu ≤ l.quality) ∧ (l.fit = false → l.quality < l.qu + l.hq)
    ∧ (l.enable = true ↔ l.state ≠ .unconfigured ∧ l.state ≠ .off)
    ∧ (l.warmUpDeadline.isSome = true ↔ l.state = .warming)
    ∧ (l.lingerDeadline.isSome = true → l.state = .standby)

/-- Every link is lawful, and the shares fit the frame store (R91). -/
def LinksLawful (s : State) : Prop := (∀ k, (s.link k).lawful) ∧ s.poolShare + s.linkShares ≤ 4096

/-- A zone table as R1 and R3 leave it. -/
def TableLawful (t : List Segment) : Prop :=
  t.length ≤ 16 ∧ (∀ g, t.head? = some g → g.start = 0) ∧ (t.map (·.start)).Pairwise (· < ·)
    ∧ ∀ g ∈ t, g.start ≤ 65535 ∧ g.prefs ≠ [] ∧ g.prefs.length ≤ 4 ∧ g.prefs.Nodup ∧ ∀ k ∈ g.prefs, inMask g.usable k = true

/-- The zone tracker as chapter 01 keeps it: a table and parameters in range, a current segment that exists whenever the
tracker is not UNLOCATED, and a run that is shorter than K and absent unless the tracker is LOCATED (R1, R2, R11, R12, R14). -/
def ZoneLawful (s : State) : Prop :=
  TableLawful s.zone.table ∧ s.zone.guardDistance ≤ 255 ∧ (1 ≤ s.zone.confirmCount ∧ s.zone.confirmCount ≤ 8)
    ∧ (10 ≤ s.zone.staleLimit ∧ s.zone.staleLimit ≤ 600)
    ∧ (∀ f, s.zone.tracker.fix? = some f → f.segment < s.zone.table.length ∧ f.distance ≤ 65535)
    ∧ (∀ d n, s.zone.run = some (d, n) → 1 ≤ n ∧ n < s.zone.confirmCount)
    ∧ (s.located = false → s.zone.run = none)

/-- An account as chapter 07 keeps it: amounts in range (section 8.3), and the laws of FUNDS and LOW (R137). -/
def Account.lawful (x : Account) : Prop :=
  x.balance ≤ 2147483647 ∧ x.shortfall ≤ 4294967295 ∧ x.spend ≤ 4294967295 ∧ x.rated ≤ 281474976710655
    ∧ x.delivered ≤ 281474976710655 ∧ x.carry.bytesUp ≤ 4294967295 ∧ x.carry.bytesDown ≤ 4294967295
    ∧ x.carry.charge ≤ 4294967295
    ∧ (x.kind = some .prepaid → (x.funds = true ↔ x.balance = 0))
    ∧ (x.kind = some .postpaid → (x.funds = true ↔ ∃ cap, x.cap = some cap ∧ cap ≤ x.spend))
    ∧ (x.kind = some .crew → x.funds = false) ∧ (x.kind = none → x.isOpen = false ∧ x.funds = false)
    ∧ (x.low = true ↔ x.kind = some .prepaid ∧ ∃ t, x.threshold = some t ∧ x.balance < t)

def AccountsLawful (s : State) : Prop := ∀ a, (s.account a).lawful

/-- A non-FREE session names an OPEN account (R134) and carries FUNDS exactly when that account's flag is set (R80). -/
def FundsFollowed (s : State) : Prop :=
  ∀ h x, s.session h = some x → (s.account x.account).isOpen = true ∧ x.causes.funds = (s.account x.account).funds

/-- A tag is mapped to a session exactly when it is in the session's bearer list, with that bearer's class, and a CLOSING
session has no bearers (R68). -/
def BearersMapped (s : State) : Prop :=
  (∀ t h c, s.tagEntry t = some (h, c) ↔ ∃ x, s.session h = some x ∧ (⟨t, c⟩ : Bearer) ∈ x.bearers)
    ∧ ∀ h x, s.session h = some x → x.phase.isClosing = true → x.bearers = []

/-- No two non-FREE sessions share a digest or an address, and none has address 0 (R69, R70). -/
def IdentitiesDistinct (s : State) : Prop :=
  (∀ h x, s.session h = some x → x.address ≠ 0)
    ∧ ∀ h j x y, s.session h = some x → s.session j = some y → (x.digest = y.digest ∨ x.address = y.address) → h = j

/-- A queued frame of a link: of the queue's class, going up, of a route bound to the link or draining on it (R94), of a
session that is not FREE (R78), with the length and blocks of R90. -/
def FrameLawful (s : State) (k : LinkId) (c : TrafficClass) (f : Frame) : Prop :=
  f.direction = .up ∧ f.cls = c ∧ f.link = some k ∧ 40 ≤ f.length ∧ f.length ≤ 2048 ∧ f.blocks = blocksOf f.length
    ∧ (s.session f.session).isSome = true
    ∧ ∃ r, f.route = some r ∧ ((s.route r).bound = some k ∨ (s.route r).draining.map (·.1) = some k)

/-- A link a route may be bound to: permitted, and usable in the current segment (R63). -/
def State.allows (s : State) (r : RouteId) (k : LinkId) : Prop := s.permits r k = true ∧ s.usable k = true

/-- Paths: a bound link is ACTIVE, permitted and usable (R63), a link waited for is permitted and usable (R47), a draining
link holds a frame of the route (R45, R49), a link that is neither ACTIVE nor RETIRING holds no frame (R94), a link that is
ACTIVE is in use (R31), each queued frame is lawful, and the queues fit the shares (R91). -/
def PathsLawful (s : State) : Prop :=
  (∀ r k, (s.route r).bound = some k → (s.link k).state = .active ∧ s.allows r k)
    ∧ (∀ r kind k, (s.route r).swap = .waking kind k → s.allows r k)
    ∧ (∀ r k d, (s.route r).draining = some (k, d) → 0 < s.routeFrames r k)
    ∧ (∀ k, (s.link k).state ≠ .active → (s.link k).state ≠ .retiring → s.queuedOn k = 0)
    ∧ (∀ k, (s.link k).state = .active → 0 < s.boundRoutes k + s.queuedOn k)
    ∧ (∀ k c, ∀ f ∈ (s.linkQueues k).frames.get c, FrameLawful s k c f)
    ∧ (∀ k, occupancyAll (s.linkQueues k).frames ≤ (s.link k).share)

/-- The hold latch of a class queue follows the occupancy (R95): set above the high mark, clear at or below the low mark. -/
def LatchesLawful (s : State) : Prop :=
  ∀ k c, ((s.linkQueues k).latch.get c = true → ((s.link k).marks.get c).low < occupancy ((s.linkQueues k).frames.get c))
    ∧ (((s.link k).marks.get c).high ≤ occupancy ((s.linkQueues k).frames.get c) → (s.linkQueues k).latch.get c = true)

/-- While CONFIGURING no session exists, no frame waits, no context is held and every route is IDLE and DARK with nothing
in hand (R38, R66, R113). -/
def ConfiguringIdle (s : State) : Prop :=
  s.service = .configuring →
    s.sessions = .empty ∧ s.bearerMap = .empty ∧ s.pool = .all [] ∧ s.slots = .empty ∧ (∀ k, s.queuedOn k = 0)
      ∧ ∀ r, (s.route r).bound = none ∧ (s.route r).swap = .idle ∧ (s.route r).draining = none ∧ (s.route r).settle = none

/-- A CONDITION slot is pending only while its condition holds (R162); between events no occurrence is left to gather. -/
def ConditionsFollowed (s : State) : Prop :=
  s.raised = [] ∧ ∀ p, ∀ k ∈ conditionKinds p, (s.gathered p k).isSome = true → s.holds k = true

/-- The open and seal lists (R112): each lists its contexts' slots, each slot once; there is at most one OPEN context for a
session and class; and an OPEN context's tariff zone is the current one. -/
def ContextsListed (s : State) : Prop :=
  s.openList.Nodup ∧ s.sealList.Nodup
    ∧ (∀ i, i ∈ s.openList ↔ (s.openContext i).isSome = true)
    ∧ (∀ i, i ∈ s.sealList ↔ ∃ v, s.slot i = some v ∧ v.isOpen = false)
    ∧ (∀ i j x y d e, s.openContext i = some (x, d) → s.openContext j = some (y, e) → x.session = y.session →
        x.cls = y.cls → i = j)
    ∧ ∀ i x d, s.openContext i = some (x, d) → x.zone = (s.currentZone.map (·.val)).getD 8

/-- A context slot: its session is not FREE and names its account (R112); an OPEN context holds the exact worth of its bytes
at a rate in range (R118), which are below the greatest byte limit (R120); a SEALED one holds its record (R122); none is clipped (R119). -/
def SlotLawful (s : State) (v : Slot) : Prop :=
  (∃ x, s.session v.context.session = some x ∧ x.account = v.context.account)
    ∧ match v with
      | .opened x _ =>
        x.charge * 1048576 + x.residue = (x.bytesUp + x.bytesDown) * x.rate ∧ x.residue < 1048576 ∧ x.rate ≤ 65535
          ∧ x.bytesUp + x.bytesDown < 1024 * 1048576 ∧ x.clipped = false
      | .sealed x _ _ record =>
        record.account = x.account ∧ record.charge = x.charge ∧ x.charge ≤ 67107968
          ∧ x.bytesUp + x.bytesDown ≤ 1073743871 ∧ x.clipped = false

/-- The tariff table once loaded (R130). -/
def TariffLawful (t : List TariffEntry) : Prop := t.length = 64 ∧ ∀ e ∈ t, ∀ c, e.rates.get c ≤ 65535

/-- What the meter and the account unit rest on: parameters in range (R114), the service SERVING only with a tariff table
and a current segment (R129, R153), lawful slots, pool frames of legal length (R99), and every account that a record or a
carried charge names OPEN (R134). -/
def MeterLawful (s : State) : Prop :=
  (10 ≤ s.meter.interval ∧ s.meter.interval ≤ 3600) ∧ (1 ≤ s.meter.byteLimit ∧ s.meter.byteLimit ≤ 1024)
    ∧ (1 ≤ s.meter.recordMark ∧ s.meter.recordMark ≤ 255)
    ∧ (∀ t, s.tariff = some t → TariffLawful t)
    ∧ (s.service = .serving → s.tariff.isSome = true ∧ s.segment.isSome = true)
    ∧ (∀ i v, s.slot i = some v → SlotLawful s v)
    ∧ (∀ c, ∀ f ∈ s.pool.get c, f.length ≤ 2048 ∧ (s.session f.session).isSome = true)
    ∧ (∀ r ∈ s.crq, (s.account r.account).isOpen = true)
    ∧ (∀ a, 0 < (s.account a).carry.charge → (s.account a).isOpen = true)

/-- The charge of an OPEN account stands in one of four places (R146). -/
def BooksBalance (s : State) : Prop :=
  ∀ a, (s.account a).isOpen = true → (s.account a).rated < 281474976710655 →
    (s.account a).rated
      = (s.account a).delivered + s.queuedCharge a + s.contextCharge a + (s.account a).carry.charge

/-- Things wait for the record queue only while it is full (R144). -/
def RecordsFillTheQueue (s : State) : Prop :=
  (s.sealList ≠ [] ∨ ∃ a, 0 < (s.account a).carry.charge) → s.crq.length = 256

/-! ### The end of closing (R77, R105, R127, R143) -/

/-- A session's OPEN contexts in the fixed class order, each with a reason to close for (R77, R127). -/
def State.sessionClosings (s : State) (h : Nat) (why : CloseReason) : List (Nat × CloseReason) :=
  allClasses.flatMap fun c =>
    (s.openList.filter fun i => (s.openContext i).any fun e => decide (e.1.session = h ∧ e.1.cls = c)).map fun i => (i, why)

/-- What the end of closing closes in an event that leaves the state `t`: the OPEN contexts of the CLOSING sessions, of some
handles, without a queued frame in `t`, in rising order of handle (R105), each for its session's reason. -/
def State.endedClosings (s t : State) (which : Nat → Bool) : List (Nat × CloseReason) :=
  s.sessions.entries.flatMap fun e =>
    match e.2.phase with
    | .closing why => if t.queuedFrames e.1 = 0 ∧ which e.1 = true then s.sessionClosings e.1 why.reason else []
    | .active | .parked _ => []

/-- The state with the contexts, accounts and records of another. -/
def State.withMoney (s m : State) : State :=
  { s with slots := m.slots, openList := m.openList, sealList := m.sealList, accounts := m.accounts, crq := m.crq }

/-- A session that entered CLOSING in the event has come to the end of its closing, or waits for its frames on links (R77): its
OPEN contexts close in class order, and charges reach the other sessions (R80) and are told. -/
def ClosingRecorded (h : Nat) (why : SessionClose) (s t : State) : Prop :=
  TablesCanonical s → ContextsListed s → AccountsLawful s →
    ContextsClosed (if s.linkFrames h = 0 then s.sessionClosings h why.reason else []) s t
      ∧ (NoticesLawful s → FundsFollowed s → GainsTold s t
          ∧ ∀ j, j ≠ h → t.session j = (s.session j).map fun y =>
              { y with causes := { y.causes with funds := (t.account y.account).funds } })

/-- An event has brought closings to their end, and its charges are those of the contexts closed thereby (R77, R105). -/
def ClosingsRecorded (s t : State) : Prop :=
  TablesCanonical s → ContextsListed s → AccountsLawful s → Rested s →
    ContextsClosed (s.endedClosings t fun _ => true) s t ∧ ClosingsEnded s t
      ∧ (NoticesLawful s → FundsFollowed s → GainsTold s t)

/-- A crossing has closed contexts, and after it closings that it emptied have come to their end (R125). -/
def CrossingRecorded (closings : List (Nat × CloseReason)) (s t : State) : Prop :=
  ∃ m, m = s.withMoney m ∧ ContextsClosed closings s m ∧ ContextsClosed (m.endedClosings t fun _ => true) m t

/-- An opportunity has metered the frame it sent or delivered, and closings that it emptied have come to their end: before the
metering those that discards had emptied, but, where the frame is the last of its own CLOSING session, only those of lower
handles; the others after it, in rising order of handle (R105, R143; DEDUCED, log entry 7). -/
def MeteredAmongClosings (h : Nat) (x : Session) (c : TrafficClass) (d : Direction) (length : Nat) (s t : State) : Prop :=
  ∀ early : Nat → Bool,
    (∀ j, early j = (!(x.phase.isClosing && decide (t.queuedFrames h = 0)) || decide (j < h))) →
    ∃ e m, e = s.withMoney e ∧ m = s.withMoney m
      ∧ ContextsClosed (s.endedClosings t early) s e ∧ FrameMetered h x c d length e m
      ∧ ContextsClosed (m.endedClosings t fun j => !early j) m t

/-- Everything above together: what holds of the part after full reset and after every step. -/
def Lawful (s : State) : Prop :=
  QueuesInBounds s ∧ NoticesLawful s ∧ TablesCanonical s ∧ ContextsListed s ∧ LinksLawful s
    ∧ RoutesLawful s ∧ ZoneLawful s ∧ AccountsLawful s ∧ FundsFollowed s ∧ BearersMapped s ∧ IdentitiesDistinct s
    ∧ ConfiguringIdle s ∧ PathsLawful s ∧ LatchesLawful s ∧ ConditionsFollowed s
    ∧ MeterLawful s ∧ BooksBalance s ∧ ClosingsWait s ∧ RecordsFillTheQueue s

/-- Every step keeps a law: it holds after a step of any state in which it holds. -/
def Kept (law : State → Prop) : Prop := ∀ s t, law s → step s = .next t → law t

/-- Every step of a lawful state keeps a law. -/
def KeptWithin (law : State → Prop) : Prop := ∀ s t, Lawful s → step s = .next t → law t

end Sys2Proof.Machine
end

