-- ==== Sys2Proof/Certificates/Slice0/Obligations.lean ====
section
/-! DEFINITION. The statements for the provers, family by family in the order of the table, then what every step keeps. -/

open Sys2Proof Sys2Proof.Machine

/-! ### The block as a whole -/

/-- A step runs the command at the front of the queue on the state with the queue's rest; with no command waiting it posts
what is due, or a millisecond passes (the model's choice, log entry 2). -/
def Obligations.StepRunsTheFrontCommand : Prop :=
  (∀ (c : Instr) (rest : List Instr) (s : State), step { s with pending := c :: rest } = exec c { s with pending := rest })
    ∧ ∀ s : State, s.pending = [] →
        step s = .next (if s.dueCommands = [] then { s with now := s.now + 1 } else { s with pending := s.dueCommands })

/-- Every command answers a next state, leaves the waiting commands as they are, and moves no timer time but for a full
reset, which restarts it (R157). -/
def Obligations.EveryCommandGoesOn : Prop :=
  ∀ (c : Instr) (s : State), ∃ t, exec c s = .next t ∧ t.pending = s.pending ∧ t.now = if c = .fullReset then 0 else s.now

/-- FULL_RESET (R7, R18, R38, R66, R92, R113, R129, R132, R147, R156, R157, R163, R169): everything is as at power-on but the
links' carrier fields and the waiting commands; the values of the registers at power-on. That a full reset keeps the carrier
fields, and that the carrier is absent at power-on, is log entry 5. -/
def Obligations.FullResetRestoresPowerOnValues : Prop :=
  (∀ s : State, ∃ t, exec .fullReset s = .next t
    ∧ { t with links := State.reset.links } = { State.reset with pending := s.pending }
    ∧ ∀ k, t.link k = { Link.reset with carrier := (s.link k).carrier })
  ∧ State.reset.now = 0
  ∧ State.reset.zone = { table := [], tracker := .unlocated, run := none, guardDistance := 50, confirmCount := 3,
                         staleLimit := 120 }
  ∧ (∀ k, State.reset.link k =
      { kind := none, state := .unconfigured, enable := false, carrier := false, warmUp := none, linger := 600, share := 512,
        marks := ⟨⟨192, 96⟩, ⟨192, 96⟩, ⟨192, 96⟩, ⟨192, 96⟩⟩, levels := ⟨3, 3, 2, 1⟩, floor := 1, qu := 120, hq := 40,
        qd := 300, quality := 512, fit := true, degraded := false, warmUpDeadline := none, lingerDeadline := none })
  ∧ State.reset.ageLimits = ⟨2000, 150, 1000, 4000⟩ ∧ State.reset.poolShare = 1024
  ∧ (∀ r, State.reset.route r =
      { permitted := 0, drainLimit := 10, probationTime := 20, settleTime := 30, bound := none, swap := .idle,
        draining := none, lastGood := none, settle := none, reselect := false })
  ∧ (∀ h, State.reset.session h = none) ∧ (∀ g, State.reset.tagEntry g = none)
  ∧ (∀ k c, (State.reset.linkQueues k).frames.get c = [] ∧ (State.reset.linkQueues k).latch.get c = false)
  ∧ (∀ c, State.reset.pool.get c = []) ∧ (∀ r c, State.reset.holdOutput r c = true)
  ∧ (∀ i, State.reset.slot i = none) ∧ State.reset.openList = [] ∧ State.reset.sealList = []
  ∧ State.reset.meter = { interval := 300, byteLimit := 16, recordMark := 32 }
  ∧ State.reset.tariff = none ∧ State.reset.crq = []
  ∧ (∀ a, State.reset.account a =
      { isOpen := false, kind := none, balance := 0, shortfall := 0, threshold := none, spend := 0, cap := none,
        funds := false, low := false, clipped := false, sequence := 0, rated := 0, delivered := 0,
        carry := { bytesUp := 0, bytesDown := 0, charge := 0, clipped := false, first := none, last := none } })
  ∧ State.reset.service = .configuring
  ∧ State.reset.clock.seconds = 0 ∧ State.reset.clock.isSet = false
  ∧ (∀ p, (State.reset.port p).inbound = [] ∧ (State.reset.port p).outbound = [] ∧ (State.reset.port p).startFlag = false
      ∧ (State.reset.port p).sync = .locked ∧ (State.reset.port p).level = 3 ∧ (State.reset.port p).pacing = 0
      ∧ (State.reset.port p).pacingDeadline = none ∧ (∀ k, State.reset.gathered p k = none)
      ∧ ∀ n, counterValue (State.reset.port p).baselines n = 0)
  ∧ ∀ c, State.reset.counter c = 0

/-- What holds at all times holds after power-on. -/
def Obligations.PowerOnStateIsLawful : Prop := Lawful State.reset

/-! ### The control ports (08) -/

/-- REQUEST_RECEIVED (R147, R148): on a port whose sync is LOST nothing is received; else the message joins the inbound
queue; with that queue full it is answered BUSY; with both full it is discarded. -/
def Obligations.ReceivedRequestIsQueuedOrRefused : Prop :=
  ∀ (p : Port) (m : Message) (s : State), ∃ t, exec (.requestReceived p m) s = .next t
    ∧ SameButPorts s t ∧ (∀ q, q ≠ p → t.port q = s.port q) ∧ Quiet s t
    ∧ ((s.port p).sync = .lost → t = s)
    ∧ ((s.port p).sync = .locked → (s.port p).inbound.length < 16 →
        t.port p = { s.port p with inbound := (s.port p).inbound ++ [m] })
    ∧ ((s.port p).sync = .locked → 16 ≤ (s.port p).inbound.length → (s.port p).outbound.length < 32 →
        (t.port p).settings = (s.port p).settings ∧ (t.port p).inbound = (s.port p).inbound
          ∧ ∃ sent, (t.port p).outbound = (s.port p).outbound ++ responseTo p m .busy [] t :: sent ∧ OnlyNotices sent)
    ∧ ((s.port p).sync = .locked → 16 ≤ (s.port p).inbound.length → 32 ≤ (s.port p).outbound.length → t = s)

/-- INVALID_REQUEST (R149 step 1): a message that names no request is answered INVALID. Every request (R149 steps 2 and 3,
R152): one on a port that may not send it, one whose body is too long or breaks the form is answered at the port, and nothing
else is changed. DETACH, BEARER_ADD, BEARER_DROP, RESUME, SESSION_BAR and SESSION_UNBAR (R67, R81): a handle above 511, a FREE
handle, and for a bar an expected digest that is not the session's, are refused with NO_SUCH before any other check. Which bodies of
a TARIFF_LOAD are too long is log entry 4. -/
def Obligations.RequestsRefusedBeforeAnyEffect : Prop :=
  (∀ (p : Port) (m : Message) (s : State), s.headRequest p .invalid = some m →
    ∃ t, exec (.invalidRequest p) s = .next t ∧ SameButPorts s t ∧ Answered p m .invalid [] s t ∧ Quiet s t)
  ∧ (∀ (q : Request) (p : Port) (m : Message) (s : State), s.headRequest p q = some m →
    (permitted q p = false ∨ bodyLimit q < m.body.length ∨ q.reads m.body = false) →
    AnsweredOnly q p m (if permitted q p = false then .notPermitted else .invalid) [] s)
  ∧ ((∀ (q : Request) (p : Port) (m : Message) (h : Nat) (s : State), Presented q p m s → q.handle m.body = some h →
    (511 < h ∨ s.session h = none) → AnsweredOnly q p m .noSuch [] s)
  ∧ ∀ (q : Request) (p : Port) (m : Message) (h : Nat) (d : BitVec 64) (x : Session) (s : State),
    (q = .sessionBar ∨ q = .sessionUnbar) → Presented q p m s → readBar m.body = some (h, some d) →
    s.session h = some x → d ≠ x.digest → AnsweredOnly q p m .noSuch [] s)

/-- A port takes one request and answers it once, behind what was queued, with its tag and code echoed; a request that is not
answered OK has changed nothing but the queues (R149, R151, R160). PORT_RESET is apart. -/
def Obligations.EveryRequestIsAnsweredOnce : Prop :=
  ∀ (q : Request) (p : Port) (m : Message) (s : State), q ≠ .portReset → s.headRequest p q = some m →
    ∃ t code body, exec (q.command p) s = .next t
      ∧ PortAnswered (s.port p) (t.port p) (responseTo p m code body t)
      ∧ (code ≠ .ok → SameButPorts s t ∧ (t.port p).settings = (s.port p).settings ∧ Quiet s t
          ∧ ∀ o, o ≠ p → t.port o = s.port o)

/-- MESSAGE_SENT (R150, R166): the head leaves the outbound queue, and only notices join behind it, chosen until nothing may be
chosen, the queue is full, or its last place waits for a response (log entry 6). With an empty queue there is nothing to act on (log
entry 3). -/
def Obligations.SentMessageLeavesTheQueue : Prop :=
  ∀ (p : Port) (s : State), ∃ t, exec (.messageSent p) s = .next t ∧ SameButPorts s t
    ∧ (∀ q, q ≠ p → t.port q = s.port q) ∧ (t.port p).settings = (s.port p).settings
    ∧ (t.port p).inbound = (s.port p).inbound ∧ Quiet s t
    ∧ (∃ sent, (t.port p).outbound = (s.port p).outbound.tail ++ sent ∧ OnlyNotices sent)
    ∧ ((s.port p).outbound = [] → t = s)
    ∧ ((s.port p).outbound ≠ [] →
        (t.port p).contested = true ∨ 32 ≤ (t.port p).outbound.length ∨ (t.port p).chosen = none)

/-- SYNC_LOST, SYNC_REGAINED (R147) and PORT_RESET (R158): the port is cleared, the other ports keep what they hold and are
told PEER_RESTART, nothing else is changed; the response to a PORT_RESET is the first message behind it. -/
def Obligations.PortResetClearsThePortAlone : Prop :=
  (∀ (p : Port) (s : State), NoticesLawful s → (s.port p).sync = .locked →
    ∃ t, exec (.syncLost p) s = .next t ∧ SameButPorts s t ∧ (t.port p).sync = .lost ∧ PortCleared p s t
      ∧ OnlyNotices (t.port p).outbound
      ∧ ∀ q, q ≠ p → PortKept (s.port q) (t.port q) ∧ ToldOnce s t q .peerRestart p.number)
  ∧ (∀ (p : Port) (m : Message) (s : State), NoticesLawful s → Presented .portReset p m s → m.body = [] →
    ∃ t, exec (.portReset p) s = .next t ∧ SameButPorts s t ∧ (t.port p).sync = (s.port p).sync
      ∧ PortCleared p s t
      ∧ (∃ sent, (t.port p).outbound = responseTo p m .ok [] t :: sent ∧ OnlyNotices sent)
      ∧ ∀ q, q ≠ p → PortKept (s.port q) (t.port q) ∧ ToldOnce s t q .peerRestart p.number)
  ∧ (∀ (p : Port) (s : State), (s.port p).sync = .lost → exec (.syncLost p) s = .next s)
  ∧ ∀ (p : Port) (s : State), exec (.syncRegained p) s = .next (s.setPort p { s.port p with sync := .locked })

/-! ### The session unit (04) -/

/-- ATTACH (R70, R71): the first check that fails decides the refusal. (That a tag is repeated where it stands more than once in the
whole list is log entry 29; the layout of the IN_USE body, log entry 40.) -/
def Obligations.AttachChecksInOrder : Prop :=
  ∀ (p : Port) (m : Message) (f : AttachFields) (s : State), Presented .attach p m s → readAttach m.body = some f →
    TablesCanonical s → IdentitiesDistinct s →
    (s.service = .configuring → AnsweredOnly .attach p m .notReady [] s)
    ∧ (s.service = .serving → s.silent = true → AnsweredOnly .attach p m .silent [] s)
    ∧ (s.service = .serving → s.silent = false → ¬AttachValid f → AnsweredOnly .attach p m .invalid [] s)
    ∧ (s.service = .serving → s.silent = false → AttachValid f → (s.account f.account).isOpen = false →
        AnsweredOnly .attach p m .noSuch [] s)
    ∧ (AttachPassesFour f s →
        (∀ h x, s.session h = some x → x.digest = f.digest →
          AnsweredOnly .attach p m .inUse (beBytes 1 0 ++ beBytes 2 h ++ beBytes 1 x.phase.number) s)
        ∧ ((∀ h x, s.session h = some x → x.digest ≠ f.digest) → ∀ h x, s.session h = some x → x.address = f.address →
            AnsweredOnly .attach p m .inUse (beBytes 1 1 ++ beBytes 2 h ++ beBytes 1 x.phase.number) s)
        ∧ (AttachIdentityFree f s →
            (∀ before b after, f.bearers = before ++ b :: after → (∀ a ∈ before, AttachTagFree f s a.1) →
              (∀ h c, s.tagEntry b.1 = some (h, c) →
                AnsweredOnly .attach p m .inUse (beBytes 1 2 ++ beBytes 2 b.1 ++ (1 :: beBytes 2 h)) s)
              ∧ (s.tagEntry b.1 = none → 1 < (f.bearers.map (·.1)).count b.1 →
                AnsweredOnly .attach p m .inUse (beBytes 1 2 ++ beBytes 2 b.1 ++ [0]) s))
            ∧ ((∀ b ∈ f.bearers, AttachTagFree f s b.1) → ∀ g : RouteId, g.val = f.group →
                ((s.currentEntry g).permission = .deny → AnsweredOnly .attach p m .denied [] s)
                ∧ ((s.currentEntry g).permission ≠ .deny → (∀ h, h < 512 → (s.session h).isSome = true) →
                    AnsweredOnly .attach p m .noSpace [] s))))

/-- ATTACH (R72): a request that passes every check takes the lowest FREE handle; the session is ACTIVE with the request's identity
and bearers, its causes computed, its tags mapped; nothing else is changed and no notice is raised. (The byte of the cause set in
the answer is log entry 15.) -/
def Obligations.AttachOpensALowestFreeSession : Prop :=
  ∀ (p : Port) (m : Message) (f : AttachFields) (g : RouteId) (h : Nat) (s : State),
    Presented .attach p m s → readAttach m.body = some f → TablesCanonical s →
    AttachPassesFour f s → AttachIdentityFree f s → (∀ b ∈ f.bearers, AttachTagFree f s b.1) → g.val = f.group →
    (s.currentEntry g).permission ≠ .deny → h < 512 → s.session h = none → (∀ j, j < h → (s.session j).isSome = true) →
    ∃ t x, exec (.attach p) s = .next t ∧ t.session h = some x
      ∧ x.phase = .active ∧ x.digest = f.digest ∧ x.group = g ∧ x.account = f.account ∧ x.address = f.address
      ∧ (x.bearers.map fun b => (b.tag, b.cls.number)) = f.bearers
      ∧ x.causes = { funds := (s.account f.account).funds, barred := false,
                     roaming := decide ((s.currentEntry g).permission = .signallingOnly) }
      ∧ x.parkHold = (match f.parkHold with | some v => max 60 (min 14400 v) | none => 7200)
      ∧ x.attachTime = { seconds := s.clock.seconds, isSet := s.clock.isSet }
      ∧ (∀ j, j ≠ h → t.session j = s.session j)
      ∧ (∀ b ∈ x.bearers, t.tagEntry b.tag = some (h, b.cls))
      ∧ (∀ tag, tag ∉ f.bearers.map (·.1) → t.tagEntry tag = s.tagEntry tag)
      ∧ SameButPorts { s with sessions := t.sessions, bearerMap := t.bearerMap } t
      ∧ Answered p m .ok (beBytes 2 h ++ causeBytes x.causes ++ beBytes 2 x.parkHold ++ yesNo (s.route g).bound.isNone) s t
      ∧ Quiet s t

/-- DETACH (R75 to R78): an ACTIVE or PARKED session enters CLOSING with reason DETACH; naming a CLOSING one it is answered OK with
no effect. PARK_DEADLINE (R88): a PARKED session whose deadline is reached enters CLOSING with reason EXPIRY and SESSION_RELEASED is
raised. With no frame of it left on a link its closing ends in the event: its OPEN contexts close in class order with the session's
reason (R77). Before the deadline, and for a session that is not PARKED, there is nothing to act on (log entry 3). -/
def Obligations.SessionsCloseByDetachAndExpiry : Prop :=
  (∀ (p : Port) (m : Message) (h : Nat) (x : Session) (s : State), Presented .detach p m s → readOne 2 m.body = some h →
    h < 512 → s.session h = some x → TablesCanonical s → Rested s →
    (x.phase.isClosing = true → AnsweredOnly .detach p m .ok (beBytes 1 3 ++ beBytes 2 (s.queuedFrames h)) s)
    ∧ (x.phase.isClosing = false →
        ∃ t, exec (.detach p) s = .next t ∧ SessionClosed h x .detach s t ∧ ClosingRecorded h .detach s t
          ∧ Answered p m .ok (beBytes 1 (if (t.session h).isSome then 3 else 0) ++ beBytes 2 (s.linkFrames h)) s t))
  ∧ (∀ (h : Fin 512) (s : State), TablesCanonical s → NoticesLawful s → Rested s →
    (∀ x d, s.session h.val = some x → x.phase = .parked d → d ≤ s.now →
      ∃ t, exec (.parkDeadline h) s = .next t ∧ SessionClosed h.val x .expiry s t ∧ ClosingRecorded h.val .expiry s t
        ∧ ToldOnce s t .rp .sessionReleased h.val ∧ ∀ p, (t.port p).settings = (s.port p).settings)
    ∧ ((∀ x d, s.session h.val = some x → x.phase = .parked d → s.now < d) → exec (.parkDeadline h) s = .next s))

/-- BEARER_ADD (R73): the checks in order; an accepted pair ends the bearer list and its tag is mapped. BEARER_DROP (R74): the
checks in order; an accepted tag leaves the bearer list, the others keeping their order, and becomes FREE. (That the
state stands first in the answers is log entry 36.) -/
def Obligations.BearersAreAddedAndDropped : Prop :=
  (∀ (p : Port) (m : Message) (f : BearerFields) (x : Session) (s : State), Presented .bearerAdd p m s →
    readBearerAdd m.body = some f → f.handle < 512 → s.session f.handle = some x →
    (x.phase.isClosing = true → AnsweredOnly .bearerAdd p m .wrongState [] s)
    ∧ (x.phase.isClosing = false → (2047 < f.tag ∨ 3 < f.cls) → AnsweredOnly .bearerAdd p m .invalid [] s)
    ∧ (x.phase.isClosing = false → f.tag ≤ 2047 → f.cls ≤ 3 → 4 ≤ x.bearers.length →
        AnsweredOnly .bearerAdd p m .noSpace [] s)
    ∧ (x.phase.isClosing = false → f.tag ≤ 2047 → f.cls ≤ 3 → x.bearers.length < 4 → ∀ h c, s.tagEntry f.tag = some (h, c) →
        AnsweredOnly .bearerAdd p m .inUse (beBytes 2 h) s)
    ∧ (x.phase.isClosing = false → f.tag ≤ 2047 → x.bearers.length < 4 → s.tagEntry f.tag = none →
        ∀ c : TrafficClass, c.number = f.cls →
        ∃ t, exec (.bearerAdd p) s = .next t
          ∧ SameButPorts { s with sessions := s.sessions.put f.handle (some { x with bearers := x.bearers ++ [⟨f.tag, c⟩] }),
                                  bearerMap := s.bearerMap.put f.tag (some (f.handle, c)) } t
          ∧ Answered p m .ok (bearersBody { x with bearers := x.bearers ++ [⟨f.tag, c⟩] }) s t ∧ Quiet s t))
  ∧ (∀ (p : Port) (m : Message) (h tag : Nat) (x : Session) (s : State), Presented .bearerDrop p m s →
    readBearerDrop m.body = some (h, tag) → h < 512 → s.session h = some x →
    (x.phase.isClosing = true → AnsweredOnly .bearerDrop p m .wrongState [] s)
    ∧ (x.phase.isClosing = false → tag ∉ x.bearers.map (·.tag) → AnsweredOnly .bearerDrop p m .noSuch [] s)
    ∧ (x.phase.isClosing = false → tag ∈ x.bearers.map (·.tag) → x.bearers.length = 1 →
        AnsweredOnly .bearerDrop p m .wrongState [] s)
    ∧ (x.phase.isClosing = false → tag ∈ x.bearers.map (·.tag) → x.bearers.length ≠ 1 →
        ∃ t, exec (.bearerDrop p) s = .next t
          ∧ SameButPorts
              { s with sessions := s.sessions.put h (some { x with bearers := x.bearers.filter fun b => decide (b.tag ≠ tag) }),
                       bearerMap := s.bearerMap.put tag none } t
          ∧ Answered p m .ok (bearersBody { x with bearers := x.bearers.filter fun b => decide (b.tag ≠ tag) }) s t ∧ Quiet s t))

/-- RESUME (R87): the checks in order; a PARKED session outside a silent segment becomes ACTIVE with ROAMING evaluated, and a
ROAMING it gains raises SESSION_RESTRICTED. (That the state stands first in the answer is log entry 36, the byte of the cause set
log entry 15.) -/
def Obligations.ResumeMakesAParkedSessionActive : Prop :=
  ∀ (p : Port) (m : Message) (h : Nat) (x : Session) (s : State), Presented .resume p m s → readOne 2 m.body = some h →
    h < 512 → s.session h = some x → TablesCanonical s → NoticesLawful s → Rested s →
    ((∀ d, x.phase ≠ .parked d) → AnsweredOnly .resume p m .wrongState [] s)
    ∧ ∀ d, x.phase = .parked d →
      (s.silent = true → AnsweredOnly .resume p m .silent [] s)
      ∧ (s.silent = false →
          ∃ t y, exec (.resume p) s = .next t ∧ t.session h = some y
            ∧ y = { x with phase := .active, causes :=
                { x.causes with roaming := decide ((s.currentEntry x.group).permission ≠ .allow) } }
            ∧ (∀ j, j ≠ h → t.session j = s.session j) ∧ SameButPorts { s with sessions := t.sessions } t
            ∧ Answered p m .ok (beBytes 1 1 ++ causeBytes y.causes) s t
            ∧ (if y.causes.roaming = true ∧ x.causes.roaming = false then ToldOnce s t .rp .sessionRestricted h
               else Quiet s t))

/-- SESSION_BAR and SESSION_UNBAR (R81): BARRED is put on, or taken off, a session in any state; a bar that an ACTIVE or
PARKED session did not carry raises SESSION_RESTRICTED. (That the state stands first in the answers is log entry 36, the byte of the
cause set log entry 15.) -/
def Obligations.BarsArePutOnAndTakenOff : Prop :=
  ∀ (on : Bool) (p : Port) (m : Message) (h : Nat) (d : Option (BitVec 64)) (x : Session) (s : State),
    Presented (if on then .sessionBar else .sessionUnbar) p m s → readBar m.body = some (h, d) → h < 512 →
    s.session h = some x → (∀ e, d = some e → e = x.digest) → TablesCanonical s → NoticesLawful s → Rested s →
    ∃ t, exec (if on then .sessionBar p else .sessionUnbar p) s = .next t
      ∧ t.session h = some { x with causes := { x.causes with barred := on } }
      ∧ (∀ j, j ≠ h → t.session j = s.session j) ∧ SameButPorts { s with sessions := t.sessions } t
      ∧ Answered p m .ok (beBytes 1 x.phase.number ++ causeBytes { x.causes with barred := on }) s t
      ∧ (if on = true ∧ x.causes.barred = false ∧ x.phase.isClosing = false then ToldOnce s t .rp .sessionRestricted h
         else Quiet s t)

/-- SESSION_READ, ACCOUNT_READ, ROUTE_READ, LINK_READ and ZONE_READ (R17, R37, R65, R89, R140) are answered OK with the record
they name, or NO_SUCH where it does not exist, and change nothing. The layout of the answers is
log entries 15, 30, 32, 35 and 39; that a CLOSED account still reports its kind, log entry 44. -/
def Obligations.ReadsReportAndChangeNothing : Prop :=
  (∀ (p : Port) (m : Message) (h : Nat) (s : State), Presented .sessionRead p m s →
    readSessionName m.body = some (.handle h) →
    (511 < h → AnsweredOnly .sessionRead p m .noSuch [] s)
    ∧ (h ≤ 511 → s.session h = none → AnsweredOnly .sessionRead p m .ok (beBytes 1 0) s)
    ∧ ∀ x, h ≤ 511 → s.session h = some x → AnsweredOnly .sessionRead p m .ok (sessionBody h x s) s)
  ∧ (∀ (p : Port) (m : Message) (d : BitVec 64) (s : State), Presented .sessionRead p m s →
    readSessionName m.body = some (.digest d) → TablesCanonical s → IdentitiesDistinct s →
    ((∀ h x, s.session h = some x → x.digest ≠ d) → AnsweredOnly .sessionRead p m .noSuch [] s)
    ∧ ∀ h x, s.session h = some x → x.digest = d → AnsweredOnly .sessionRead p m .ok (sessionBody h x s) s)
  ∧ (∀ (p : Port) (m : Message) (a : Nat) (s : State), Presented .accountRead p m s → readOne 2 m.body = some a →
    AnsweredOnly .accountRead p m (if a ≤ 255 then .ok else .noSuch) (if a ≤ 255 then accountBody a s else []) s)
  ∧ (∀ (p : Port) (m : Message) (n : Nat) (s : State), Presented .routeRead p m s → readOne 1 m.body = some n →
    (7 < n → AnsweredOnly .routeRead p m .noSuch [] s)
    ∧ ∀ r : RouteId, r.val = n → AnsweredOnly .routeRead p m .ok (routeBody r s) s)
  ∧ (∀ (p : Port) (m : Message) (n : Nat) (s : State), Presented .linkRead p m s → readOne 1 m.body = some n →
    (5 < n → AnsweredOnly .linkRead p m .noSuch [] s)
    ∧ ∀ k : LinkId, k.val = n → AnsweredOnly .linkRead p m .ok (linkBody k s) s)
  ∧ ∀ (p : Port) (m : Message) (n : Option Nat) (s : State), Presented .zoneRead p m s → readZoneRead m.body = some n →
    (n = none → AnsweredOnly .zoneRead p m .ok (zoneBody s) s)
    ∧ ∀ i, n = some i →
      (s.zone.table.length ≤ i → AnsweredOnly .zoneRead p m .noSuch [] s)
      ∧ ∀ g, s.zone.table[i]? = some g → AnsweredOnly .zoneRead p m .ok (zoneBody s ++ segmentBytes g) s

/-! ### The link manager (02) -/

/-- LINK_SETUP (R19, R20): the checks in order; an accepted setup writes kind, warm-up time, linger, share and marks and makes
an UNCONFIGURED link OFF. (That kind and warm-up time stand bare in the answer is log entry 42.) -/
def Obligations.LinkSetupWritesTheRecord : Prop :=
  ∀ (p : Port) (m : Message) (f : LinkSetupFields) (s : State), Presented .linkSetup p m s →
    readLinkSetup m.body = some f →
    (5 < f.link → AnsweredOnly .linkSetup p m .noSuch [] s)
    ∧ ∀ k : LinkId, k.val = f.link →
      ((s.link k).state ∈ [.warming, .standby, .active, .retiring] → AnsweredOnly .linkSetup p m .wrongState [] s)
      ∧ ((s.link k).state ∈ [.unconfigured, .off, .failed] →
          (2 < f.kind → AnsweredOnly .linkSetup p m .invalid [] s)
          ∧ ∀ kind : LinkKind, kind.number = f.kind → ∀ share, share = f.share.getD (s.link k).share →
            (4096 < share + s.otherShares k + s.poolShare → AnsweredOnly .linkSetup p m .noSpace [] s)
            ∧ (share + s.otherShares k + s.poolShare ≤ 4096 → ∀ marks, marks = mergeMarks (s.link k).marks f.marks →
                (∀ c, ¬(0 < (marks.get c).low ∧ (marks.get c).low < (marks.get c).high ∧ (marks.get c).high ≤ share) →
                  (∀ b : TrafficClass, b.number < c.number →
                    0 < (marks.get b).low ∧ (marks.get b).low < (marks.get b).high ∧ (marks.get b).high ≤ share) →
                  AnsweredOnly .linkSetup p m .invalid (beBytes 1 c.number) s)
                ∧ ((∀ c, 0 < (marks.get c).low ∧ (marks.get c).low < (marks.get c).high ∧ (marks.get c).high ≤ share) →
                    ∃ t l, exec (.linkSetup p) s = .next t ∧ SameButPorts (s.setLink k l) t
                      ∧ l = { s.link k with
                          kind := some kind
                          warmUp := some (match f.warmUp, kind with
                            | some w, _ => max 1 (min 600 w)
                            | none, .coastal => 20
                            | none, .satellite => 45
                            | none, .harbour => 5)
                          linger := (match f.linger with | some v => min 3600 v | none => (s.link k).linger)
                          share := share
                          marks := marks
                          state := if (s.link k).state = .unconfigured then .off else (s.link k).state
                          enable := if (s.link k).state = .unconfigured then false else (s.link k).enable }
                      ∧ Answered p m .ok (setupBody l) s t ∧ Quiet s t)))

/-- LINK_TUNE (R21, R34, R35): each field present is put into force, clamped; the degraded flag and fitness are judged anew.
Where fitness keeps its value nothing else is changed; a link that becomes unfit in SERVING is left by every route; one that
becomes fit while OFF may be powered on for a DARK route in the event. Every route answers a change of fitness (R47, R50 to R53, R60,
R62; the order of the routes is log entry 12), and SWAP_ROLLBACK and ROUTE_DARK are told (R51, R64). -/
def Obligations.LinkTunePutsFieldsInForce : Prop :=
  ∀ (p : Port) (m : Message) (f : LinkTuneFields) (s : State), Presented .linkTune p m s → readLinkTune m.body = some f →
    Rested s →
    (5 < f.link → AnsweredOnly .linkTune p m .noSuch [] s)
    ∧ ∀ k : LinkId, k.val = f.link → ∃ t, exec (.linkTune p) s = .next t
      ∧ Answered p m .ok (tuneBody (t.link k) t.ageLimits) s t
      ∧ (∀ c, (t.link k).levels.get c = (match f.levels.get c with
            | some v => if v = 0 then (s.link k).levels.get c else min 3 v
            | none => (s.link k).levels.get c)
          ∧ t.ageLimits.get c = (match f.ages.get c with | some v => max 10 (min 10000 v) | none => s.ageLimits.get c))
      ∧ (t.link k).floor = (match f.floor with | some v => min 2 v | none => (s.link k).floor)
      ∧ (t.link k).qu = (match f.qu with | some v => min 1023 v | none => (s.link k).qu)
      ∧ (t.link k).qd = (match f.qd with | some v => min 1023 v | none => (s.link k).qd)
      ∧ (∀ hq, hq = (match f.hq with | some v => min 1023 v | none => (s.link k).hq) →
          (t.link k).hq = if 1023 < (t.link k).qu + hq then 1023 - (t.link k).qu else hq)
      ∧ (∀ fit, fit = (if (s.link k).fit then decide ((t.link k).qu ≤ (s.link k).quality)
            else decide ((t.link k).qu + (t.link k).hq ≤ (s.link k).quality)) →
          JudgedOrWoken k (s.link k).quality fit s t ∧ LeftIfUnfit k fit s t
          ∧ ∀ tuned, tuned = { s.link k with
                levels := (t.link k).levels, floor := (t.link k).floor, qu := (t.link k).qu, hq := (t.link k).hq,
                qd := (t.link k).qd, fit := fit, degraded := decide ((s.link k).quality < (t.link k).qd) } →
            (s.keepsFit k fit → SameButPorts { s.setLink k tuned with ageLimits := t.ageLimits } t ∧ Quiet s t)
            ∧ FitnessAnswered k tuned s t)
      ∧ (NoticesLawful s → DarkTold s t)
      ∧ (NoneClosing s → SameOffPaths { s with ageLimits := t.ageLimits } t)

/-- LINK_POWER ON, LINK_STATUS UP and CARRIER_REGAIN (R22, R25, R28, R29): by the link's state refused, answered with no
effect, or the link enters WARMING. Where its fitness keeps its value nothing else is changed; else every route answers the change
(R34, R47, R50 to R53, R60, R62; the order of the routes is log entry 12). A name that is neither ON nor
OFF, UP nor DOWN, is log entry 16; that a refusal carries no state, log entry 33; a carrier that is present already, log entry 3. -/
def Obligations.LinkEntersWarming : Prop :=
  (∀ (q : Request) (p : Port) (m : Message) (n name : Nat) (s : State), (q = .linkPowerOn ∨ q = .linkStatusUp) →
    Presented q p m s → readLinkName m.body = some (n, name) → Rested s →
    (5 < n → AnsweredOnly q p m .noSuch [] s)
    ∧ ∀ k : LinkId, k.val = n →
      (name ≠ 0 → AnsweredOnly q p m .invalid [] s)
      ∧ (name = 0 →
          ((s.link k).state = .unconfigured → AnsweredOnly q p m .wrongState [] s)
          ∧ ((s.link k).state ∈ [.warming, .standby, .active] →
              AnsweredOnly q p m .ok (beBytes 1 (s.link k).state.number) s)
          ∧ ((s.link k).state = .retiring →
              AnsweredOnly q p m (if q = .linkPowerOn then .busy else .ok) (if q = .linkPowerOn then [] else beBytes 1 5) s)
          ∧ ((s.link k).state = .off → q = .linkStatusUp → AnsweredOnly q p m .ok (beBytes 1 1) s)
          ∧ ((s.link k).state = .failed ∨ ((s.link k).state = .off ∧ q = .linkPowerOn) →
              ∀ w, (s.link k).warmUp = some w → ∃ t, exec (q.command p) s = .next t
                ∧ t.link k = (s.link k).onWarmUp s.now w ∧ Answered p m .ok (beBytes 1 2) s t
                ∧ (s.keepsFit k (t.link k).fit → SameButPorts (s.setLink k (t.link k)) t ∧ Quiet s t)
                ∧ FitnessAnswered k (t.link k) s t ∧ (NoticesLawful s → DarkTold s t)
                ∧ (NoneClosing s → SameOffPaths s t))))
  ∧ ∀ (k : LinkId) (s : State), Rested s →
    ((s.link k).carrier = true → exec (.carrierRegain k) s = .next s)
    ∧ ((s.link k).carrier = false → (s.link k).state ≠ .failed →
        ∃ t, exec (.carrierRegain k) s = .next t ∧ SameButPorts (s.setLink k { s.link k with carrier := true }) t ∧ Quiet s t)
    ∧ ((s.link k).carrier = false → (s.link k).state = .failed → ∀ w, (s.link k).warmUp = some w →
        ∃ t, exec (.carrierRegain k) s = .next t
          ∧ t.link k = { (s.link k).onWarmUp s.now w with carrier := true }
          ∧ (s.keepsFit k (t.link k).fit → SameButPorts (s.setLink k (t.link k)) t ∧ Quiet s t)
          ∧ FitnessAnswered k (t.link k) s t ∧ (NoticesLawful s → DarkTold s t)
          ∧ (NoneClosing s → SameOffPaths s t))

/-- LINK_POWER OFF on a link that is not ACTIVE, and LINGER_DEADLINE (R23, R32): the link goes OFF, or the request is refused or has
no effect. With no route waiting for it nothing else is changed; a link a route waits for goes OFF as well, and at the end no route
waits for it, unless, with another link's Qu above the seed, it was powered on again. Every route that waited for it has answered
its loss, and every other one IDLE and bound has made its settle evaluation (R47, R59, R60; the order of the routes is log entry
12), and ROUTE_DARK follows (R64). Before the deadline there is nothing to act on (log entry 3). That a refusal carries no state is
log entry 33. -/
def Obligations.LinkGoesOff : Prop :=
  (∀ (p : Port) (m : Message) (n : Nat) (s : State), Presented .linkPowerOff p m s → readLinkName m.body = some (n, 1) →
    Rested s →
    (5 < n → AnsweredOnly .linkPowerOff p m .noSuch [] s)
    ∧ ∀ k : LinkId, k.val = n →
      ((s.link k).state = .unconfigured → AnsweredOnly .linkPowerOff p m .wrongState [] s)
      ∧ ((s.link k).state ∈ [.off, .retiring] → AnsweredOnly .linkPowerOff p m .ok (beBytes 1 (s.link k).state.number) s)
      ∧ ((s.link k).state ∈ [.warming, .standby, .failed] → ∃ t, exec (.linkPowerOff p) s = .next t
          ∧ Answered p m .ok (beBytes 1 (t.link k).state.number) s t
          ∧ ((∀ r, (s.route r).waitsFor k = false) → LinkWentOff k s t) ∧ OffOrWokenAgain k s t ∧ OffAnswered k s t
          ∧ (NoneClosing s → SameOffPaths s t)))
  ∧ ∀ (k : LinkId) (s : State), Rested s →
    (∀ d, (s.link k).state = .standby → (s.link k).lingerDeadline = some d → d ≤ s.now →
      ∃ t, exec (.lingerDeadline k) s = .next t
        ∧ ((∀ r, (s.route r).waitsFor k = false) → LinkWentOff k s t) ∧ OffOrWokenAgain k s t ∧ OffAnswered k s t
        ∧ (NoneClosing s → SameOffPaths s t))
    ∧ ((∀ d, (s.link k).state = .standby → (s.link k).lingerDeadline = some d → s.now < d) →
        exec (.lingerDeadline k) s = .next s)

/-- LINK_POWER OFF on an ACTIVE link (R24): every route is forced off it; it is RETIRING while it holds frames, and OFF at once if
it held none. Every route bound to it is rolled back, or reselects, or is left DARK (R50 to R53), draining on it while it holds
frames of the route (R45), every other one IDLE and bound makes its settle evaluation (R60), and SWAP_ROLLBACK and ROUTE_DARK are
told (R51, R64). (Stated where no link that could be powered on has a Qu above the seed and no route drains on a RETIRING link. The
order within the event is log entry 22, that of the routes log entry 12.) -/
def Obligations.ActiveLinkRetires : Prop :=
  ∀ (p : Port) (m : Message) (k : LinkId) (s : State), Presented .linkPowerOff p m s →
    readLinkName m.body = some (k.val, 1) → (s.link k).state = .active → Lawful s →
    (∀ r, (s.route r).reselect = false) →
    ∃ t, exec (.linkPowerOff p) s = .next t ∧ (∀ r, (t.route r).bound ≠ some k)
      ∧ t.queuedOn k = s.queuedOn k
      ∧ (t.link k).state = (if s.queuedOn k = 0 then .off else .retiring)
      ∧ (t.link k).enable = decide (0 < s.queuedOn k)
      ∧ Answered p m .ok (beBytes 1 (t.link k).state.number) s t ∧ (NoneClosing s → SameOffPaths s t) ∧ DarkTold s t
      ∧ (WakesFit s → NoDrainRetires s → ∀ u, u = s.setLink k { s.link k with state := .retiring, lingerDeadline := none } →
          (∀ r, (s.route r).waitsFor k = false → LossAnswered r k u t ∧ LeavesDraining r s t)
          ∧ RollbacksTold (fun _ b => decide (b = k)) u s t)

/-- LINK_STATUS DOWN and CARRIER_LOSS (R27, R29, R30, R54, R106): the link fails from the states those rules name, and in the others
a loss moves only the carrier field. Every route bound to the link, or waiting for it, answers the loss by its state: rolled back,
reselecting, back to IDLE or left DARK (R47, R50 to R53, R59), existing drains on other links running on (R45); SWAP_ROLLBACK and
ROUTE_DARK are told (R64; the order of the routes is log entry 12). Closings whose last frames are lost come to their end, session
by session in rising order of handle (R77, R105). A carrier that is absent already is log entry 3; that a refusal carries no state,
log entry 33. -/
def Obligations.LinkFails : Prop :=
  (∀ (p : Port) (m : Message) (n : Nat) (s : State), Presented .linkStatusDown p m s →
    readLinkName m.body = some (n, 1) → NoticesLawful s → Rested s →
    (5 < n → AnsweredOnly .linkStatusDown p m .noSuch [] s)
    ∧ ∀ k : LinkId, k.val = n →
      ((s.link k).state = .unconfigured → AnsweredOnly .linkStatusDown p m .wrongState [] s)
      ∧ ((s.link k).state ∈ [.off, .failed] →
          AnsweredOnly .linkStatusDown p m .ok (beBytes 1 (s.link k).state.number) s)
      ∧ ((s.link k).state ∈ [.warming, .standby, .active, .retiring] → ∃ t, exec (.linkStatusDown p) s = .next t
          ∧ LinkFailed k (s.link k).carrier s t ∧ ClosingsRecorded s t ∧ Answered p m .ok (beBytes 1 6) s t))
  ∧ ∀ (k : LinkId) (s : State), NoticesLawful s → Rested s →
    ((s.link k).carrier = false → exec (.carrierLoss k) s = .next s)
    ∧ ((s.link k).carrier = true → (s.link k).state ∈ [.unconfigured, .off, .warming, .failed] →
        ∃ t, exec (.carrierLoss k) s = .next t ∧ SameButPorts (s.setLink k { s.link k with carrier := false }) t ∧ Quiet s t)
    ∧ ((s.link k).carrier = true → (s.link k).state ∈ [.standby, .active, .retiring] →
        ∃ t, exec (.carrierLoss k) s = .next t ∧ LinkFailed k false s t ∧ ClosingsRecorded s t)

/-- WARM_UP_DEADLINE (R26, R31, R32, R46, R47): with carrier the link is ready, LINK_READY is raised, and every route that waited
for it is bound to it, in PROBATION, its swap of the kind it was and its last good link unchanged. Then every route that is DARK
reselects (R62; stated where no link it could power on has a Qu above the seed and no route drains on a RETIRING link), and
ROUTE_DARK follows (R64). With a route newly bound to it after the event the link is ACTIVE; with none bound to it, and no
frame on it before, it is STANDBY with its linger set. Without carrier it fails, and the routes that waited for it answer its loss
(R47). The order of several routes is log entry 12. Before the deadline there is nothing to act on (log entry 3). -/
def Obligations.WarmUpEndsReadyOrFailed : Prop :=
  ∀ (k : LinkId) (s : State), NoticesLawful s → Rested s →
    (∀ d, (s.link k).state = .warming → (s.link k).warmUpDeadline = some d → d ≤ s.now →
      ((s.link k).carrier = true → ∃ t, exec (.warmUpDeadline k) s = .next t
        ∧ ((t.link k).state = .standby ∨ (t.link k).state = .active) ∧ (t.link k).warmUpDeadline = none
        ∧ ToldOnce s t .lp .linkReady k.val
        ∧ (s.service = .serving → ∀ r kind, (s.route r).swap = .waking kind k →
            (t.route r).bound = some k ∧ (t.route r).lastGood = (s.route r).lastGood
              ∧ (t.route r).swap = .probation kind (s.now + (s.route r).probationTime * 1000))
        ∧ (∀ ready, ready = { s.link k with
              state := .standby, warmUpDeadline := none,
              lingerDeadline := if (s.link k).linger = 0 then none else some (s.now + (s.link k).linger * 1000) } →
            (s.queuedOn k = 0 → (∀ r, (t.route r).bound ≠ some k) → t.link k = ready)
            ∧ (s.service = .configuring → SameButPorts (s.setLink k ready) t)
            ∧ (s.service = .serving → WakesFit s → NoDrainRetires s → ∀ r, (s.route r).bound = none →
                (s.route r).waitsFor k = false → (∀ kind d, (s.route r).swap ≠ .probation kind d) →
                DarkReselected r (s.setLink k ready) t))
        ∧ DarkTold s t
        ∧ (∀ r, (t.route r).bound = some k → (s.route r).bound ≠ some k →
            t.link k = { s.link k with state := .active, warmUpDeadline := none, lingerDeadline := none })
        ∧ (NoneClosing s → SameOffPaths s t))
      ∧ ((s.link k).carrier = false → ∃ t, exec (.warmUpDeadline k) s = .next t ∧ LinkFailed k false s t
        ∧ ClosingsRecorded s t))
    ∧ ((∀ d, (s.link k).state = .warming → (s.link k).warmUpDeadline = some d → s.now < d) →
        exec (.warmUpDeadline k) s = .next s)

/-- LINK_REPORT (R33 to R35): ignored and counted while the link is UNCONFIGURED, OFF or FAILED; else the quality moves by the
formula and the degraded flag and fitness are judged. Where fitness keeps its value nothing else is changed; a link that becomes
unfit in SERVING is left by every route. Every route answers a change of fitness (R47, R50 to R53, R60, R62; the order of the routes
is log entry 12), and SWAP_ROLLBACK and ROUTE_DARK are told (R51, R64). (The first byte of the answer, which says whether the report
was ignored, is log entry 15.) -/
def Obligations.LinkReportMovesTheQuality : Prop :=
  ∀ (p : Port) (m : Message) (n x : Nat) (s : State), Presented .linkReport p m s →
    readLinkReport m.body = some (n, x) → Rested s →
    (5 < n → AnsweredOnly .linkReport p m .noSuch [] s)
    ∧ ∀ k : LinkId, k.val = n →
      ((s.link k).state ∈ [.unconfigured, .off, .failed] → ∃ t, exec (.linkReport p) s = .next t
        ∧ SameButPorts (s.count (.ignoredReport k) 1) t ∧ Answered p m .ok [1] s t ∧ Quiet s t)
      ∧ ((s.link k).state ∈ [.warming, .standby, .active, .retiring] → ∃ t, exec (.linkReport p) s = .next t
        ∧ Answered p m .ok ([0] ++ beBytes 2 (t.link k).quality ++ yesNo (t.link k).fit ++ yesNo (t.link k).degraded) s t
        ∧ ∀ q fit, q = (7 * (s.link k).quality + min x 1023 + 4) / 8 →
          fit = (if (s.link k).fit then decide ((s.link k).qu ≤ q) else decide ((s.link k).qu + (s.link k).hq ≤ q)) →
          JudgedOrWoken k q fit s t ∧ LeftIfUnfit k fit s t
          ∧ (∀ judged, judged = { s.link k with quality := q, fit := fit, degraded := decide (q < (s.link k).qd) } →
              (s.keepsFit k fit → SameButPorts (s.setLink k judged) t ∧ Quiet s t) ∧ FitnessAnswered k judged s t)
          ∧ (NoticesLawful s → DarkTold s t) ∧ (NoneClosing s → SameOffPaths s t))

/-! ### The route unit (03) -/

/-- Routine and forced selection (R41 to R43): the first link of the current segment's preference list that passes the
candidate test; a forced selection takes the first of those that is ready, if one is. -/
def Obligations.SelectionsWalkThePreferenceList : Prop :=
  ∀ (r : RouteId) (excluded : Option LinkId) (s : State), ∀ passes : LinkId → Prop,
    (∀ k, passes k ↔ inMask (s.route r).permitted k = true ∧ (∃ g, s.segment = some g ∧ inMask g.usable k = true)
      ∧ excluded ≠ some k ∧ (s.link k).state ∈ [.off, .warming, .standby, .active] ∧ (s.link k).fit = true) →
    (s.routineSelection r excluded = none ↔ ∀ k ∈ s.prefs, ¬passes k)
    ∧ (∀ k, s.routineSelection r excluded = some k ↔
        ∃ before after, s.prefs = before ++ k :: after ∧ passes k ∧ ∀ j ∈ before, ¬passes j)
    ∧ ((∀ k ∈ s.prefs, passes k → (s.link k).state ≠ .standby ∧ (s.link k).state ≠ .active) →
        s.forcedSelection r excluded = s.routineSelection r excluded)
    ∧ ∀ k before after, s.prefs = before ++ k :: after → passes k →
        ((s.link k).state = .standby ∨ (s.link k).state = .active) →
        (∀ j ∈ before, passes j → (s.link j).state ≠ .standby ∧ (s.link j).state ≠ .active) →
        s.forcedSelection r excluded = some k

/-- ROUTE_POLICY (R39, R40): the checks in order; the mask and the clamped times are put into force; in CONFIGURING that is
all, and in SERVING the route is left bound to, and waiting for, permitted links only. It answers by its state (R47, R50 to R53, R59,
R60, R62), draining on a link it has left (R45), SWAP_ROLLBACK and ROUTE_DARK are told (R51, R64), and every other route goes on as it
was (stated where no link that could be powered on has a Qu above the seed and no route drains on a RETIRING link). -/
def Obligations.RoutePolicyIsPutInForce : Prop :=
  ∀ (p : Port) (m : Message) (f : PolicyFields) (s : State), Presented .routePolicy p m s → readPolicy m.body = some f →
    Rested s →
    (7 < f.route → AnsweredOnly .routePolicy p m .noSuch [] s)
    ∧ ∀ r : RouteId, r.val = f.route →
      (64 ≤ f.mask.toNat → AnsweredOnly .routePolicy p m .invalid [] s)
      ∧ (f.mask.toNat < 64 → ∃ t x, exec (.routePolicy p) s = .next t
          ∧ x = { s.route r with
              permitted := f.mask
              drainLimit := (match f.drainLimit with | some v => max 1 (min 60 v) | none => (s.route r).drainLimit)
              probationTime := (match f.probationTime with | some v => max 5 (min 120 v) | none => (s.route r).probationTime)
              settleTime := (match f.settleTime with | some v => max 5 (min 600 v) | none => (s.route r).settleTime) }
          ∧ (t.route r).permitted = x.permitted ∧ (t.route r).drainLimit = x.drainLimit
          ∧ (t.route r).probationTime = x.probationTime ∧ (t.route r).settleTime = x.settleTime
          ∧ Answered p m .ok (beBytes 1 x.permitted.toNat ++ beBytes 1 x.drainLimit ++ beBytes 1 x.probationTime
              ++ beBytes 2 x.settleTime) s t
          ∧ (s.service = .configuring → SameButPorts (s.setRoute r x) t ∧ Quiet s t)
          ∧ (s.service = .serving → ∀ k, ((t.route r).bound = some k ∨ (t.route r).waitsFor k = true) →
              inMask f.mask k = true)
          ∧ (∀ u, u = s.setRoute r x → s.service = .serving → RoutesLawful s → WakesFit s → NoDrainRetires s →
              PolicyAnswered r u t ∧ (∀ q, q ≠ r → t.route q = s.route q)
                ∧ (NoticesLawful s → RollbacksTold (fun q b => decide (q = r) && !u.permits r b) u s t))
          ∧ (NoticesLawful s → DarkTold s t)
          ∧ (NoneClosing s → SameOffPaths s t))

/-- SWAP_ROUTE, with and without FORCE (R55, R56): the checks in order; a target that is the bound link is answered OK with
outcome NONE and changes nothing (with FORCE too: log entry 9); AUTO that finds nothing new changes nothing. -/
def Obligations.SwapRequestsAreChecked : Prop :=
  ∀ (q : Request) (p : Port) (m : Message) (f : SwapFields) (s : State),
    (q = .swapRoute ∧ f.force = false ∨ q = .swapRouteForce ∧ f.force = true) →
    Presented q p m s → readSwap m.body = some f →
    (s.service = .configuring → AnsweredOnly q p m .notReady [] s)
    ∧ (s.service = .serving → 7 < f.route → AnsweredOnly q p m .noSuch [] s)
    ∧ ∀ r : RouteId, s.service = .serving → r.val = f.route →
      (5 < f.target → f.target ≠ 255 → AnsweredOnly q p m .invalid [] s)
      ∧ (f.target ≤ 5 ∨ f.target = 255 →
          (f.force = false → (s.route r).swap ≠ .idle → AnsweredOnly q p m .busy [] s)
          ∧ (f.force = true ∨ (s.route r).swap = .idle →
              (∀ k : LinkId, k.val = f.target →
                ((s.route r).bound = some k → AnsweredOnly q p m .ok (swapBody r (fun _ => .none) s) s)
                ∧ ((s.route r).bound ≠ some k → s.candidate r none k = false → AnsweredOnly q p m .unusable [] s))
              ∧ (f.target = 255 → f.force = false → ∀ b, (s.route r).bound = some b →
                  (s.routineSelection r none = none → AnsweredOnly q p m .unusable [] s)
                  ∧ (s.routineSelection r none = some b → AnsweredOnly q p m .ok (swapBody r (fun _ => .none) s) s))
              ∧ (f.target = 255 → (s.route r).bound = none → (s.route r).swap = .idle → s.forcedSelection r none = none →
                  AnsweredOnly q p m .unusable [] s)))

/-- SWAP_ROUTE, with and without FORCE, to a named link or to the one that AUTO selects (R44, R46, R50, R52, R53, R55 to R57): a
ready link is cut over to within the event, the route being on probation with its former link draining while it holds frames of the
route; an OFF link that stays fit is powered on, a WARMING one waited for. With FORCE, and with every forced selection, reselect
pending is cleared; with FORCE the route is unbound first. AUTO with FORCE on a bound route in PROBATION whose last good link is
another link, ready and a candidate (R51): it is rolled back to it, the settle evaluation is made (R60), SWAP_ROLLBACK is raised,
and the outcome is ROLLBACK (that a reselect pending is cleared before is log entry 10). Where its selection finds nothing, the
route is IDLE and DARK and ROUTE_DARK is told (R64). AUTO with FORCE on a route in FORCED WAKING that finds nothing, or the link it
waits for (R62): only reselect pending is cleared (log entry 24). The outcome is read from the final state (of a target that becomes
unfit as it is powered on too: log entry 20). A forced cause on a route that drains on a RETIRING link is left out. -/
def Obligations.SwapStartsOrRollsBack : Prop :=
  (∀ (force : Bool) (p : Port) (m : Message) (n : Nat) (r : RouteId) (k : LinkId) (s : State),
    Presented (if force then .swapRouteForce else .swapRoute) p m s → readSwap m.body = some ⟨r.val, n, force⟩ →
    s.service = .serving → (force = false → (s.route r).swap = .idle) → SwapChooses force n r k s →
    RoutesLawful s → s.raised = [] →
    ∃ t, exec (if force then .swapRouteForce p else .swapRoute p) s = .next t
      ∧ Answered p m .ok (swapBody r Route.outcome t) s t ∧ (NoneClosing s → SameOffPaths s t)
      ∧ (s.ready k = true ∨ ((s.link k).state = .off ∧ (s.link k).qu ≤ 512) ∨ (s.link k).state = .warming →
          (t.route r).settle = none ∧ (t.route r).lastGood = (s.route r).lastGood
            ∧ (t.route r).reselect =
                (if force = true ∨ n = 255 ∧ (s.route r).bound = none then false else (s.route r).reselect))
      ∧ ∀ kind, kind = (if force = true ∨ (s.route r).bound = none then SwapKind.forced else .routine) →
        (s.ready k = true →
          (t.route r).bound = some k
          ∧ (t.route r).swap = .probation kind (s.now + (s.route r).probationTime * 1000)
          ∧ (t.route r).outcome = .cutover
          ∧ ((s.link k).state = .standby → (t.link k).state = .active ∧ (t.link k).lingerDeadline = none)
          ∧ ∀ b, (s.route r).bound = some b → 0 < s.routeFrames r b →
              (t.route r).draining = some (b, s.now + (s.route r).drainLimit * 1000))
        ∧ (((s.link k).state = .off ∧ (s.link k).qu ≤ 512) ∨ (s.link k).state = .warming →
          (t.route r).bound = (if force then none else (s.route r).bound)
          ∧ (t.route r).swap = .waking kind k ∧ (t.route r).outcome = .waking
          ∧ ∀ w, (s.link k).state = .off → (s.link k).warmUp = some w → t.link k = (s.link k).onWarmUp s.now w))
  ∧ (∀ (p : Port) (m : Message) (r : RouteId) (b g : LinkId) (kind : SwapKind) (d : Nat) (s : State),
    Presented .swapRouteForce p m s → readSwap m.body = some ⟨r.val, 255, true⟩ → s.service = .serving →
    (s.route r).bound = some b → (s.route r).swap = .probation kind d → (s.route r).lastGood = some g → g ≠ b →
    s.ready g = true → s.candidate r none g = true → NoticesLawful s → s.raised = [] →
    ∃ t, exec (.swapRouteForce p) s = .next t ∧ (t.route r).bound = some g ∧ (t.route r).swap = .idle
      ∧ (t.route r).settle = (s.preferred r g).map (fun k => (k, s.now + (s.route r).settleTime * 1000))
      ∧ (t.route r).reselect = false ∧ (t.route r).lastGood = some g ∧ (t.route r).draining.map (·.1) ≠ some g
      ∧ (0 < s.routeFrames r b → (t.route r).draining = some (b, s.now + (s.route r).drainLimit * 1000))
      ∧ ToldOnce s t .lp .swapRollback r.val ∧ Answered p m .ok (swapBody r (fun _ => .rollback) t) s t
      ∧ (NoneClosing s → SameOffPaths s t))
  ∧ (∀ (p : Port) (m : Message) (r : RouteId) (b : LinkId) (s : State),
    Presented .swapRouteForce p m s → readSwap m.body = some ⟨r.val, 255, true⟩ → s.service = .serving →
    (s.route r).bound = some b → s.strikeSelects r b → s.forcedSelection r (some b) = none → NoticesLawful s → s.raised = [] →
    ∃ t, exec (.swapRouteForce p) s = .next t ∧ (t.route r).bound = none ∧ (t.route r).swap = .idle
      ∧ (t.route r).settle = none ∧ (t.route r).reselect = false ∧ (t.route r).lastGood = (s.route r).lastGood
      ∧ (0 < s.routeFrames r b → (t.route r).draining = some (b, s.now + (s.route r).drainLimit * 1000))
      ∧ ToldOnce s t .rp .routeDark r.val ∧ ToldOnce s t .lp .routeDark r.val
      ∧ Answered p m .ok (swapBody r (fun _ => .dark) t) s t ∧ (NoneClosing s → SameOffPaths s t))
  ∧ ∀ (p : Port) (m : Message) (r : RouteId) (kind : SwapKind) (k : LinkId) (s : State),
    Presented .swapRouteForce p m s → readSwap m.body = some ⟨r.val, 255, true⟩ → s.service = .serving →
    (s.route r).bound = none → (s.route r).swap = .waking kind k →
    (s.forcedSelection r none = none ∨ s.forcedSelection r none = some k) → Rested s →
    ∃ t, exec (.swapRouteForce p) s = .next t ∧ SameButPorts (s.setRoute r { s.route r with reselect := false }) t
      ∧ Answered p m .ok (swapBody r (fun _ => .waking) t) s t ∧ Quiet s t

/-- DRAIN_DEADLINE (R49, R107): the drain ends; the route's frames on the link are discarded and counted, others keep their places,
and DRAIN_DISCARD is raised if there were any. Closings whose last frames went come to their end (R77, R105). Before the deadline
there is nothing to act on (log entry 3). -/
def Obligations.DrainEndsAtItsDeadline : Prop :=
  ∀ (r : RouteId) (s : State), NoticesLawful s → s.raised = [] →
    (∀ k d, (s.route r).draining = some (k, d) → d ≤ s.now → ∃ t, exec (.drainDeadline r) s = .next t
      ∧ (t.route r).draining = none ∧ (t.route r).bound = (s.route r).bound ∧ (t.route r).swap = (s.route r).swap
      ∧ (∀ c, (t.linkQueues k).frames.get c = ((s.linkQueues k).frames.get c).filter fun f => decide (f.route ≠ some r))
      ∧ (∀ j, j ≠ k → t.linkQueues j = s.linkQueues j)
      ∧ (∀ c, t.counter (.drain k c) = s.counter (.drain k c)
          + BitVec.ofNat 40 (((s.linkQueues k).frames.get c).countP fun f => f.route = some r))
      ∧ (if 0 < s.routeFrames r k then ToldOnce s t .lp .drainDiscard r.val
         else t.links = s.links ∧ t.counters = s.counters)
      ∧ ClosingsRecorded s t ∧ (NoneClosing s → SameOffPaths s t))
    ∧ ((∀ k d, (s.route r).draining = some (k, d) → s.now < d) → exec (.drainDeadline r) s = .next s)

/-- PROBATION_DEADLINE (R48): the route is IDLE on its bound link, which is its last good link, and SWAP_DONE is raised. With
reselect pending a routine selection is made and answered (R59; stated where no link it could power on has a Qu above the seed);
with none, or where that finds nothing new, the settle evaluation of R60 is made, and nothing else is changed. SETTLE_DEADLINE (R60,
R61): a candidate that is still preferred is cut over to; else the settle evaluation is made afresh. Before either deadline there is
nothing to act on (log entry 3). -/
def Obligations.ProbationAndSettleDeadlinesAct : Prop :=
  (∀ (r : RouteId) (s : State), NoticesLawful s → Rested s →
    (∀ kind d, (s.route r).swap = .probation kind d → d ≤ s.now → ∃ t, exec (.probationDeadline r) s = .next t
      ∧ (t.route r).lastGood = (s.route r).bound ∧ (t.route r).reselect = false
      ∧ ToldOnce s t .lp .swapDone r.val ∧ (NoneClosing s → SameOffPaths s t)
      ∧ ((s.route r).reselect = false →
          SameButPorts (s.setRoute r { s.route r with
            swap := .idle, lastGood := (s.route r).bound, settle := (t.route r).settle }) t)
      ∧ (∀ b, (s.route r).bound = some b → ((s.route r).reselect = false ∨ WakesFit s) →
          RoutineChosen r none b (s.route r).reselect s t))
    ∧ ((∀ kind d, (s.route r).swap = .probation kind d → s.now < d) → exec (.probationDeadline r) s = .next s))
  ∧ (∀ (r : RouteId) (s : State), Rested s →
    (∀ k d b, (s.route r).settle = some (k, d) → d ≤ s.now → (s.route r).swap = .idle → (s.route r).bound = some b →
      ∃ t, exec (.settleDeadline r) s = .next t ∧ (NoneClosing s → SameOffPaths s t)
        ∧ (s.preferred r b = some k → b ≠ k →
            (t.route r).bound = some k ∧ (t.route r).settle = none
            ∧ (t.route r).swap = .probation .routine (s.now + (s.route r).probationTime * 1000))
        ∧ (s.preferred r b ≠ some k →
            SameButPorts (s.setRoute r { s.route r with
              settle := (s.preferred r b).map fun j => (j, s.now + (s.route r).settleTime * 1000) }) t ∧ Quiet s t))
    ∧ ((∀ k d, (s.route r).settle = some (k, d) → s.now < d) → exec (.settleDeadline r) s = .next s)
    ∧ ∀ (b k : LinkId), s.preferred r b = some k ↔
        ∃ before after, s.prefs = before ++ k :: after ∧ b ∉ before ∧ b ≠ k ∧ s.candidate r none k = true
          ∧ s.ready k = true ∧ ∀ j ∈ before, ¬(s.candidate r none j = true ∧ s.ready j = true))

/-! ### The zone tracker (01) -/

/-- ZONE_LOAD (R3): a load is refused exactly when a check fails. The first check that fails names the fault: COUNT and
FIRST_START at index 0, else the lowest segment that fails a check of the table, and of the checks it fails the first in the
table's order: a start not above the one before, a tariff zone above 7, a preference list that is empty or of more than 4 entries,
an entry above 5, an entry twice, an entry outside the usable mask. -/
def Obligations.ZoneLoadFaultsAreFoundInOrder : Prop :=
  (∀ l : List RawSegment, zoneFault l = none ↔
    1 ≤ l.length ∧ l.length ≤ 16 ∧ (l.head?.map (·.start)) = some 0 ∧ (l.map (·.start)).Pairwise (· < ·)
      ∧ ∀ g ∈ l, g.zone ≤ 7 ∧ 1 ≤ g.prefs.length ∧ g.prefs.length ≤ 4 ∧ (∀ k ∈ g.prefs, k ≤ 5) ∧ g.prefs.Nodup
          ∧ ∀ k ∈ g.prefs, g.usable.getLsbD k = true)
  ∧ (∀ l : List RawSegment, (l = [] ∨ 16 < l.length) → zoneFault l = some (.count, 0))
  ∧ (∀ (g : RawSegment) (l : List RawSegment), l.length < 16 → g.start ≠ 0 → zoneFault (g :: l) = some (.firstStart, 0))
  ∧ (∀ (before after : List RawSegment) (g : RawSegment), (before ++ g :: after).length ≤ 16 →
      (((before ++ g :: after).head?.map (·.start)) = some 0) →
      (∀ pre x post, before = pre ++ x :: post → ∀ e, ¬x.fails (pre.getLast?.map (·.start)) e) →
      ∀ e, g.fails (before.getLast?.map (·.start)) e →
        (∀ c : ZoneFault, c.number < e.number → ¬g.fails (before.getLast?.map (·.start)) c) →
        zoneFault (before ++ g :: after) = some (e, before.length))
  ∧ ([.count, .firstStart, .order, .tariffZone, .prefLength, .prefLink, .prefDuplicate, .prefUnusable].map ZoneFault.number
      = List.range 8)
  ∧ ∀ (p : Port) (m : Message) (f : ZoneLoadFields) (s : State), Presented .zoneLoad p m s →
      readZoneLoad m.body = some f → ∀ e i, zoneFault f.segments = some (e, i) →
      AnsweredOnly .zoneLoad p m .invalid (beBytes 1 e.number ++ beBytes 1 i) s

/-- ZONE_LOAD (R1, R2, R4 to R6, R15): an accepted load replaces the table by the loaded segments, puts the clamped parameters into
force and clears the run; a tracker with a segment is placed anew, in the segment that contains its last good distance, its stale
deadline moves with the limit, and the crossing is told on LP and PP; it is answered as every crossing is: by the routes (R58;
stated where no link they could power on has a Qu above the seed and none drains on a RETIRING link; that a RELOAD is answered so is
log entry 34, the order of the routes log entry 12), by parking, ROAMING and the closing of contexts (R82, R84, R85, R125), and by
the notices (R16, R64, R79). While UNLOCATED nothing else is changed. In CONFIGURING the service start check follows (R153, R155).
(A deadline that lies before the present has passed: log entry 13. The order in which the blocks answer is log entry 23.) -/
def Obligations.ZoneLoadReplacesTheTable : Prop :=
  ∀ (p : Port) (m : Message) (f : ZoneLoadFields) (s : State), Presented .zoneLoad p m s →
    readZoneLoad m.body = some f → zoneFault f.segments = none → NoticesLawful s → Rested s →
    ∃ t, exec (.zoneLoad p) s = .next t ∧ t.zone.table = f.segments.map RawSegment.install ∧ t.zone.run = none
      ∧ (∀ (i : Nat) (loaded : RawSegment) (g : Segment), f.segments[i]? = some loaded → t.zone.table[i]? = some g →
          g.start = loaded.start ∧ g.zone.val = loaded.zone ∧ g.silent = loaded.silent ∧ g.usable = loaded.usable
            ∧ g.prefs.map (·.val) = loaded.prefs)
      ∧ t.zone.guardDistance = (match f.guardDistance with | some v => min 255 v | none => s.zone.guardDistance)
      ∧ t.zone.confirmCount = (match f.confirmCount with | some v => max 1 (min 8 v) | none => s.zone.confirmCount)
      ∧ t.zone.staleLimit = (match f.staleLimit with | some v => max 10 (min 600 v) | none => s.zone.staleLimit)
      ∧ Answered p m .ok (beBytes 1 f.segments.length ++ beBytes 2 t.zone.guardDistance ++ beBytes 1 t.zone.confirmCount
          ++ beBytes 2 t.zone.staleLimit) s t
      ∧ (s.zone.tracker = .unlocated → SameButPorts { s with zone := { t.zone with tracker := .unlocated } } t ∧ Quiet s t)
      ∧ StartChecked { s with zone := t.zone } s t
      ∧ (∀ x, s.zone.tracker.fix? = some x →
          ∃ y, y = { x with segment := segmentAt t.zone.table x.distance }
            ∧ t.zone.tracker =
                (match s.zone.tracker with
                | .located _ _ =>
                  if x.time + t.zone.staleLimit * 1000 < s.now then .stale y
                  else .located y (x.time + t.zone.staleLimit * 1000)
                | _ => .stale y)
            ∧ (∀ (i : Nat) (g : Segment), t.zone.table[i]? = some g → g.start ≤ x.distance →
                (∀ n, t.zone.table[i + 1]? = some n → x.distance < n.start) → y.segment = i)
            ∧ ToldOnce s t .lp .zoneCrossed y.segment ∧ ToldOnce s t .pp .zoneCrossed y.segment ∧ DarkTold s t
            ∧ (s.service = .serving → RoutesLawful s → WakesFit s → NoDrainRetires s →
                (∀ r, CrossingAnswered r { s with zone := t.zone } t)
                ∧ RollbacksTold (fun _ b => !{ s with zone := t.zone }.usable b) { s with zone := t.zone } s t)
            ∧ ∀ g, t.zone.table[y.segment]? = some g → CoverageTold g y.segment s t
                ∧ (TablesCanonical s → SessionsCrossed g s t
                    ∧ (AccountsLawful s → FundsFollowed s → GainsTold s t)
                    ∧ (ContextsListed s → AccountsLawful s → ClosingsEnded s t
                        ∧ CrossingRecorded (s.crossingClosings s.zone.table[x.segment]? g) s t)))

/-- POSITION (R8, R9): a quality that is neither GOOD nor DEGRADED is refused with INVALID, a report with no table loaded with
WRONG_STATE (that INVALID comes first is log entry 31); a DEGRADED report is counted and has no other effect, in any state. -/
def Obligations.DegradedPositionIsOnlyCounted : Prop :=
  ∀ (p : Port) (m : Message) (d quality : Nat) (s : State), Presented .position p m s →
    readPosition m.body = some (d, quality) →
    (1 < quality → AnsweredOnly .position p m .invalid [] s)
    ∧ (quality ≤ 1 → s.zone.table = [] → AnsweredOnly .position p m .wrongState [] s)
    ∧ (quality = 1 → s.zone.table ≠ [] → ∃ t, exec (.position p) s = .next t
        ∧ SameButPorts (s.count .degradedPosition 1) t ∧ Answered p m .ok (positionBody false s) s t ∧ Quiet s t)

/-- POSITION, GOOD, while LOCATED or STALE and completing no run (R11, R13): the run follows where the distance falls, the fix
and the stale deadline are renewed, and the tracker is LOCATED. A report that returns a STALE tracker is followed by the service
start check (R153, R155); where that starts no service, nothing else is changed. -/
def Obligations.GoodPositionUpdatesTheRun : Prop :=
  ∀ (p : Port) (m : Message) (d : Nat) (x : Fix) (g : Segment) (run : Option (RunDirection × Nat)) (s : State),
    Presented .position p m s → readPosition m.body = some (d, 0) → s.zone.tracker.fix? = some x →
    s.zone.table[x.segment]? = some g → Rested s →
    run = (if g.start ≤ d ∧ d ≤ segmentEnd s.zone.table x.segment then none
           else if (segmentEnd s.zone.table x.segment < d ∧ d ≤ segmentEnd s.zone.table x.segment + s.zone.guardDistance)
               ∨ (d ≤ segmentEnd s.zone.table x.segment ∧ g.start ≤ d + s.zone.guardDistance) then s.zone.run
           else
             let way := if segmentEnd s.zone.table x.segment < d then RunDirection.up else .down
             match s.zone.run with
             | some (e, n) => if e = way then some (way, n + 1) else some (way, 1)
             | none => some (way, 1)) →
    (∀ e n, run = some (e, n) → n < s.zone.confirmCount) →
    ∃ t u, exec (.position p) s = .next t
      ∧ u = { s with zone := { s.zone with
            tracker := .located { segment := x.segment, distance := d, time := s.now } (s.now + s.zone.staleLimit * 1000)
            run := run } }
      ∧ Answered p m .ok (beBytes 1 1 ++ (1 :: beBytes 1 x.segment) ++ runBytes run ++ [0]) s t
      ∧ (s.service = .serving ∨ s.located = true ∨ ¬u.readyToServe → SameButPorts u t ∧ Quiet s t)
      ∧ (s.located = false → StartChecked u s t ∧ (NoneClosing s → SameOffPaths { u with service := t.service } t))

/-- POSITION, GOOD, that causes a crossing (R1, R10, R12, R15, R82, R84, R85): a first fix, or a report that completes a run. The
segment containing the distance, s_i ≤ d ≤ e_i, becomes the current one, ZONE_CROSSED is told on LP and PP, and COVERAGE_OFF as the
part comes into silence or leaves it (R16). In SERVING every route answers by its state (R58; stated where no link it could power on
has a Qu above the seed and none drains on a RETIRING link), and ROUTE_DARK follows (R64). Every session's ROAMING follows the new
zone, and into a silent segment every ACTIVE session is parked, its frames in the pool gone; SESSION_RESTRICTED is told for a cause
gained (R79). A context of a session so parked closes with reason PARK, every other with reason ZONE where the tariff zone changes,
in the order of the open list (R125, R127; the order in which the blocks answer is log entry 23, that of the routes log entry 12).
Where the tracker was not LOCATED before, the service start check follows (R153, R155). -/
def Obligations.CrossingMovesParksAndEvaluates : Prop :=
  (∀ (table : List Segment) (i d e : Nat) (g : Segment), (table.map (·.start)).Pairwise (· < ·) → d ≤ 65535 →
    table[i]? = some g → e = (match table[i + 1]? with | some n => n.start - 1 | none => 65535) →
    segmentEnd table i = e ∧ (g.start ≤ d → d ≤ e → segmentAt table d = i))
  ∧ ∀ (p : Port) (m : Message) (d : Nat) (g : Segment) (s : State), Presented .position p m s →
    readPosition m.body = some (d, 0) → NoticesLawful s → TablesCanonical s → Rested s →
    s.zone.table[segmentAt s.zone.table d]? = some g →
    (s.zone.tracker = .unlocated ∨ ∃ x h n, s.zone.tracker.fix? = some x ∧ s.zone.table[x.segment]? = some h
      ∧ runAfter s.zone.run (placeOf h.start (segmentEnd s.zone.table x.segment) s.zone.guardDistance d) = some n
      ∧ s.zone.confirmCount ≤ n.2) →
    ∃ t, exec (.position p) s = .next t
      ∧ t.zone = { s.zone with
          tracker := .located { segment := segmentAt s.zone.table d, distance := d, time := s.now }
            (s.now + s.zone.staleLimit * 1000)
          run := none }
      ∧ Answered p m .ok (beBytes 1 1 ++ (1 :: beBytes 1 (segmentAt s.zone.table d)) ++ [0, 0] ++ [1]) s t
      ∧ ToldOnce s t .lp .zoneCrossed (segmentAt s.zone.table d) ∧ ToldOnce s t .pp .zoneCrossed (segmentAt s.zone.table d)
      ∧ CoverageTold g (segmentAt s.zone.table d) s t ∧ DarkTold s t ∧ SessionsCrossed g s t
      ∧ (s.service = .serving → RoutesLawful s → WakesFit s → NoDrainRetires s →
          (∀ r, CrossingAnswered r { s with zone := t.zone } t)
            ∧ RollbacksTold (fun _ b => !{ s with zone := t.zone }.usable b) { s with zone := t.zone } s t)
      ∧ (if s.located then t.service = s.service else StartChecked { s with zone := t.zone } s t)
      ∧ (AccountsLawful s → FundsFollowed s → GainsTold s t)
      ∧ (ContextsListed s → AccountsLawful s → ClosingsEnded s t ∧ CrossingRecorded
          (s.crossingClosings (s.zone.tracker.fix?.bind fun x => s.zone.table[x.segment]?) g) s t)

/-- STALE_EXPIRY (R14, R16): the tracker becomes STALE with its run cleared and its segment held, POSITION_STALE is told, and
nothing else is changed. Before the deadline there is nothing to act on (log entry 3). -/
def Obligations.StaleExpiryHoldsTheSegment : Prop :=
  ∀ s : State, NoticesLawful s → Rested s →
    (∀ x d, s.zone.tracker = .located x d → d ≤ s.now → ∃ t, exec .staleExpiry s = .next t
      ∧ SameButPorts { s with zone := { s.zone with tracker := .stale x, run := none } } t
      ∧ ToldOnce s t .lp .positionStale x.segment)
    ∧ ((∀ x d, s.zone.tracker = .located x d → s.now < d) → exec .staleExpiry s = .next s)

/-! ### Service, store and clock (05, 08) -/

/-- STORE_SETUP (R91): the checks in order; the pool share is put into force. METER_SETUP (R114): an absent field keeps its
value, a present one is clamped; nothing else is changed, so that running interval deadlines stand, and a record mark met
thereby is told on PP. -/
def Obligations.StoreAndMeterParametersAreSet : Prop :=
  (∀ (p : Port) (m : Message) (share : Nat) (s : State), Presented .storeSetup p m s → readOne 2 m.body = some share →
    (s.service = .serving → AnsweredOnly .storeSetup p m .wrongState [] s)
    ∧ (s.service = .configuring → share < 8 → AnsweredOnly .storeSetup p m .invalid [] s)
    ∧ (s.service = .configuring → 8 ≤ share → 4096 < share + s.linkShares → AnsweredOnly .storeSetup p m .noSpace [] s)
    ∧ (s.service = .configuring → 8 ≤ share → share + s.linkShares ≤ 4096 → ∃ t, exec (.storeSetup p) s = .next t
        ∧ SameButPorts { s with poolShare := share } t ∧ Quiet s t
        ∧ Answered p m .ok (beBytes 2 share ++ beBytes 2 s.linkShares ++ beBytes 2 (4096 - (share + s.linkShares))) s t))
  ∧ (∀ (p : Port) (m : Message) (f : MeterSetupFields) (s : State), Presented .meterSetup p m s →
    readMeterSetup m.body = some f → NoticesLawful s →
    ∃ t, exec (.meterSetup p) s = .next t
      ∧ SameButPorts { s with meter :=
          { interval := (match f.interval with | some v => max 10 (min 3600 v) | none => s.meter.interval)
            byteLimit := (match f.byteLimit with | some v => max 1 (min 1024 v) | none => s.meter.byteLimit)
            recordMark := (match f.recordMark with | some v => max 1 (min 255 v) | none => s.meter.recordMark) } } t
      ∧ Answered p m .ok (beBytes 2 t.meter.interval ++ beBytes 2 t.meter.byteLimit ++ beBytes 2 t.meter.recordMark) s t
      ∧ (if s.crq.length < s.meter.recordMark ∧ t.meter.recordMark ≤ s.crq.length
         then ToldOnce s t .pp .recordsWaiting 65535 else Quiet s t))

/-- CLOCK_SET and VOYAGE_CLOCK_TICK (R156): the clock becomes the value and is set, its count toward the next second
restarting; each second it rises by one, wrapping at its top and keeping its set state. (The next second is held as a timer
time: log entry 27; that a tick before it has nothing to act on is log entry 3.) -/
def Obligations.VoyageClockIsSetAndTicks : Prop :=
  (∀ (p : Port) (m : Message) (v : Nat) (s : State), Presented .clockSet p m s → readOne 4 m.body = some v →
    ∃ t, exec (.clockSet p) s = .next t
      ∧ SameButPorts { s with clock := { seconds := BitVec.ofNat 32 v, isSet := true, nextSecond := s.now + 1000 } } t
      ∧ Answered p m .ok (beBytes 4 s.clock.seconds.toNat ++ yesNo (!s.clock.isSet) ++ beBytes 4 v) s t ∧ Quiet s t)
  ∧ (∀ s : State, s.clock.nextSecond ≤ s.now → exec .voyageClockTick s = .next { s with clock :=
        { s.clock with seconds := s.clock.seconds + 1, nextSecond := s.clock.nextSecond + 1000 } })
  ∧ (∀ s : State, s.now < s.clock.nextSecond → exec .voyageClockTick s = .next s)
  ∧ (4294967295 : BitVec 32) + 1 = 0

/-- START (R153 to R155): the port's start flag is set and kept; in CONFIGURING the service enters SERVING exactly when the
table, the located tracker, the tariff and both start flags are there; else nothing else is changed. On entering SERVING every
route, IDLE and DARK, makes the forced selection of R62 and answers it, and ROUTE_DARK is told for each one left DARK (R64). (That the
two start flags are one condition in the answer is log entry 29.) -/
def Obligations.StartSetsTheFlagAndMayServe : Prop :=
  ∀ (p : Port) (m : Message) (s : State), Presented .start p m s → m.body = [] → Rested s →
    ∃ t, exec (.start p) s = .next t ∧ (t.port p).startFlag = true
      ∧ (∀ q, q ≠ p → PortKept (s.port q) (t.port q))
      ∧ PortAnswered (s.port p) (t.port p) (responseTo p m .ok (startBody t) t)
      ∧ (t.port p).settings = (true, (s.port p).settings.2)
      ∧ ∀ ready : Prop, (ready ↔ s.zone.table ≠ [] ∧ (∃ x d, s.zone.tracker = .located x d) ∧ s.tariff.isSome = true
            ∧ ∀ q, q ≠ .rp → q = p ∨ (s.port q).startFlag = true) →
          (s.service = .serving ∨ ¬ready → SameButPorts s t ∧ Quiet s t)
          ∧ (s.service = .configuring → ready → t.service = .serving
              ∧ (NoneClosing s → SameOffPaths { s with service := .serving } t)
              ∧ (WakesFit s → ∀ r, (s.route r).bound = none → (s.route r).swap = .idle → ForcedChosen r none s t)
              ∧ (NoticesLawful s → DarkTold s t))

/-! ### Tariff, accounts and records (06, 07) -/

/-- TARIFF_LOAD (R126, R130, R131): the checks in order; an accepted load replaces the whole table, closes every OPEN context in
the order of the open list with reason TARIFF, and evaluates every session's ROAMING, the flags and causes that come up being told
(R79, R83, R137). In CONFIGURING the service start check follows (R153, R155). With no context and no session, and no service start,
nothing else is changed. (That a body of 64 entries, 1089 bytes, is taken is log entry 4; that the closes come before ROAMING, log
entry 37; the body of a COUNT refusal, log entry 38.) -/
def Obligations.TariffLoadReplacesTheTable : Prop :=
  ∀ (p : Port) (m : Message) (l : List RawTariff) (s : State), Presented .tariffLoad p m s →
    readTariffLoad m.body = some l → Rested s →
    (l.length ≠ 64 → AnsweredOnly .tariffLoad p m .invalid (beBytes 1 0) s)
    ∧ (∀ before e after, l.length = 64 → l = before ++ e :: after →
        (∀ x ∈ before, x.permission ≤ 2 ∧ ∀ c, x.rates.get c ≤ 65535) →
        (2 < e.permission → AnsweredOnly .tariffLoad p m .invalid
          (beBytes 1 1 ++ beBytes 1 (before.length / 8) ++ beBytes 1 (before.length % 8)) s)
        ∧ (e.permission ≤ 2 → (∃ c, 65535 < e.rates.get c) → AnsweredOnly .tariffLoad p m .invalid
          (beBytes 1 2 ++ beBytes 1 (before.length / 8) ++ beBytes 1 (before.length % 8)) s))
    ∧ (l.length = 64 → (∀ x ∈ l, x.permission ≤ 2 ∧ ∀ c, x.rates.get c ≤ 65535) →
        ∃ t table, exec (.tariffLoad p) s = .next t ∧ t.tariff = some table ∧ table.map (·.rates) = l.map (·.rates)
          ∧ ((table.map fun e => some e.permission) = (l.map fun x => Permission.ofNumber x.permission))
          ∧ PortAnswered (s.port p) (t.port p) (responseTo p m .ok (tariffBody l s) t)
          ∧ (ContextsListed s → t.openList = []
              ∧ (AccountsLawful s → ContextsClosed (s.openList.map fun i => (i, .tariff)) s t))
          ∧ StartChecked { s with tariff := t.tariff } s t
          ∧ (TablesCanonical s → NoticesLawful s → AccountsLawful s → FundsFollowed s → GainsTold s t)
          ∧ (NoneClosing s → TablesCanonical s → ∀ h x, s.session h = some x → ∃ y, t.session h = some y
              ∧ y.phase = x.phase ∧ y.causes.roaming = decide ((t.currentEntry x.group).permission ≠ .allow))
          ∧ (s.openList = [] → (∀ h, s.session h = none) →
              (s.service = .serving ∨ { s with tariff := t.tariff }.startConditions ≠ (true, true, true, true)) →
              SameButPorts { s with tariff := t.tariff } t ∧ Quiet s t))

/-- ACCOUNT_OPEN (R133, R137): the checks in order; the account is opened afresh, its flags set, with no notice. A field that
does not belong to the kind is ignored (in check 3 too: log entry 28). (The layout of the account record in the answer is log
entry 15.) -/
def Obligations.AccountOpensAfresh : Prop :=
  ∀ (p : Port) (m : Message) (f : AccountOpenFields) (s : State), Presented .accountOpen p m s →
    readAccountOpen m.body = some f → TablesCanonical s → Rested s →
    (255 < f.account → AnsweredOnly .accountOpen p m .noSuch [] s)
    ∧ (f.account ≤ 255 → (s.account f.account).isOpen = true → AnsweredOnly .accountOpen p m .inUse [] s)
    ∧ (f.account ≤ 255 → (s.account f.account).isOpen = false →
        (2 < f.kind → AnsweredOnly .accountOpen p m .invalid [] s)
        ∧ ∀ kind : AccountKind, kind.number = f.kind →
          (kind = .prepaid ∧ (2147483647 < f.amount.getD 0 ∨ 2147483647 < f.threshold.getD 0)
              ∨ kind = .postpaid ∧ f.amount = some 0 → AnsweredOnly .accountOpen p m .invalid [] s)
          ∧ (¬(kind = .prepaid ∧ (2147483647 < f.amount.getD 0 ∨ 2147483647 < f.threshold.getD 0)
              ∨ kind = .postpaid ∧ f.amount = some 0) →
              (∀ h x, s.session h = some x → x.account ≠ f.account) →
              ∃ t x, exec (.accountOpen p) s = .next t ∧ SameButPorts (s.setAccount f.account x) t ∧ Quiet s t
                ∧ Answered p m .ok (accountBytes x) s t
                ∧ x = (match kind with
                  | .prepaid => { Account.reset with
                      isOpen := true, kind := some .prepaid, balance := f.amount.getD 0, threshold := f.threshold,
                      funds := decide (f.amount.getD 0 = 0), low := decide (f.amount.getD 0 < f.threshold.getD 0) }
                  | .postpaid => { Account.reset with isOpen := true, kind := some .postpaid, cap := f.amount }
                  | .crew => { Account.reset with isOpen := true, kind := some .crew })))

/-- ACCOUNT_CLOSE (R134): a session, an unrecorded charge or a queued record of the account keeps it open, in that order; else
it becomes CLOSED and its other fields keep their values, the kind among them (log entry 44). (The layout of the OK answer, bytes up
and then bytes down, is log entry 15.) -/
def Obligations.AccountClosesWhenUnused : Prop :=
  ∀ (p : Port) (m : Message) (a : Nat) (s : State), Presented .accountClose p m s → readOne 2 m.body = some a →
    TablesCanonical s → ∀ sessions records : Prop, (sessions ↔ ∃ h x, s.session h = some x ∧ x.account = a) →
    (records ↔ ∃ r ∈ s.crq, r.account = a) →
    (255 < a ∨ (s.account a).isOpen = false → AnsweredOnly .accountClose p m .noSuch [] s)
    ∧ (a ≤ 255 → (s.account a).isOpen = true →
        (sessions → AnsweredOnly .accountClose p m .inUse (beBytes 1 0) s)
        ∧ (¬sessions → 0 < (s.account a).carry.charge → AnsweredOnly .accountClose p m .inUse (beBytes 1 1) s)
        ∧ (¬sessions → (s.account a).carry.charge = 0 → records →
            AnsweredOnly .accountClose p m .inUse (beBytes 1 2) s)
        ∧ (¬sessions → (s.account a).carry.charge = 0 → ¬records → ∃ t, exec (.accountClose p) s = .next t
            ∧ SameButPorts (s.setAccount a { s.account a with isOpen := false }) t ∧ Quiet s t
            ∧ Answered p m .ok (beBytes 4 (s.account a).carry.bytesUp ++ beBytes 4 (s.account a).carry.bytesDown) s t))

/-- ACCOUNT_CREDIT (R137, R138): the checks in order; a PREPAID credit repays the shortfall first and raises the balance up to
its ceiling, a POSTPAID one lowers the spend; the flags are judged, the sequence moves on, the sessions' FUNDS follow. (What
the answer to a POSTPAID credit reports as not kept, and that its fields stand bare, is log entry 15.) -/
def Obligations.CreditRepaysAndRaises : Prop :=
  ∀ (p : Port) (m : Message) (f : CreditFields) (s : State), Presented .accountCredit p m s →
    readCredit m.body = some f → TablesCanonical s → AccountsLawful s → FundsFollowed s → Rested s →
    ∀ x, x = s.account f.account →
    (255 < f.account ∨ x.isOpen = false → AnsweredOnly .accountCredit p m .noSuch [] s)
    ∧ (f.account ≤ 255 → x.isOpen = true → (f.amount = 0 ∨ 2147483647 < f.amount) →
        AnsweredOnly .accountCredit p m .invalid [] s)
    ∧ (f.account ≤ 255 → x.isOpen = true → 1 ≤ f.amount → f.amount ≤ 2147483647 →
        (x.kind = some .crew → AnsweredOnly .accountCredit p m .wrongState [] s)
        ∧ (x.kind ≠ some .crew → f.sequence ≠ x.sequence.toNat →
            AnsweredOnly .accountCredit p m .stale (beBytes 2 x.sequence.toNat) s)
        ∧ (f.sequence = x.sequence.toNat →
            (∀ y sum, x.kind = some .prepaid → sum = x.balance + (f.amount - x.shortfall) →
              y = { x with
                shortfall := x.shortfall - f.amount, balance := min 2147483647 sum,
                clipped := x.clipped || decide (2147483647 < sum), funds := decide (sum = 0),
                low := (match x.threshold with | some v => decide (min 2147483647 sum < v) | none => false),
                sequence := x.sequence + 1 } →
              ∃ t, exec (.accountCredit p) s = .next t ∧ AccountMoved f.account y s t ∧ Quiet s t
                ∧ Answered p m .ok (beBytes 4 y.balance ++ beBytes 4 y.shortfall ++ flagBytes y
                    ++ beBytes 2 y.sequence.toNat ++ beBytes 4 (sum - 2147483647)) s t)
            ∧ (∀ y, x.kind = some .postpaid →
              y = { x with
                spend := x.spend - f.amount,
                funds := (match x.cap with | some cap => decide (cap ≤ x.spend - f.amount) | none => false), low := false,
                sequence := x.sequence + 1 } →
              ∃ t, exec (.accountCredit p) s = .next t ∧ AccountMoved f.account y s t ∧ Quiet s t
                ∧ Answered p m .ok (beBytes 4 y.spend ++ flagBytes y ++ beBytes 2 y.sequence.toNat
                    ++ beBytes 4 (f.amount - x.spend)) s t)))

/-- ACCOUNT_SET (R137, R139): the checks in order; threshold and cap are put into force, both clipped flags cleared, the flags
judged, the sequence moved on; a flag that passes from clear to set is told on PP. (The three flag bytes of the answer are log
entry 15; that it carries no balance and no shortfall, log entry 43.) -/
def Obligations.AccountSetPutsSettingsInForce : Prop :=
  ∀ (p : Port) (m : Message) (f : AccountSetFields) (s : State), Presented .accountSet p m s →
    readAccountSet m.body = some f → TablesCanonical s → NoticesLawful s → AccountsLawful s → FundsFollowed s → Rested s →
    ∀ x, x = s.account f.account →
    (255 < f.account ∨ x.isOpen = false → AnsweredOnly .accountSet p m .noSuch [] s)
    ∧ (f.account ≤ 255 → x.isOpen = true → ∀ misplaced outside : Prop,
        (misplaced ↔ (∃ v, f.threshold = .value v) ∧ x.kind ≠ some .prepaid
            ∨ (∃ v, f.cap = .value v) ∧ x.kind ≠ some .postpaid) →
        (outside ↔ (∃ v, f.threshold = .value v ∧ 2147483647 < v) ∨ ∃ v, f.cap = .value v ∧ (v = 0 ∨ 4294967295 < v)) →
        (misplaced ∨ outside → AnsweredOnly .accountSet p m .invalid [] s)
        ∧ (¬misplaced → ¬outside → f.sequence ≠ x.sequence.toNat →
            AnsweredOnly .accountSet p m .stale (beBytes 2 x.sequence.toNat) s)
        ∧ (¬misplaced → ¬outside → f.sequence = x.sequence.toNat → ∀ y z, y = { x with
              threshold := (match f.threshold with | .keep => x.threshold | .remove => none | .value v => some v)
              cap := (match f.cap with | .keep => x.cap | .remove => none | .value v => some v)
              clipped := false
              carry := { x.carry with clipped := false }
              sequence := x.sequence + 1 } →
            z = { y with funds := y.fundsLaw, low := y.lowLaw } →
            ∃ t, exec (.accountSet p) s = .next t ∧ AccountMoved f.account z s t
              ∧ Answered p m .ok (optionalBytes (beBytes 4) z.threshold ++ optionalBytes (beBytes 4) z.cap ++ flagBytes z
                  ++ beBytes 2 z.sequence.toNat) s t
              ∧ (z.funds = true → x.funds = false → ToldOnce s t .pp .fundsOut f.account)
              ∧ (z.low = true → x.low = false → ToldOnce s t .pp .lowBalance f.account)))

/-- RECORD_TAKE (R78, R128, R142, R144): up to the count of records leave the head of the queue and are counted as delivered; the
room is filled until the queue holds 256 records or nothing waits, with the SEALED contexts' records in seal order and then the
carries in account order; what was taken is FREE, or clear, and what was not waits on. A CLOSING session without frames is FREE
once its last SEALED context has been taken. -/
def Obligations.RecordsAreTakenAndDelivered : Prop :=
  ∀ (p : Port) (m : Message) (n : Nat) (s : State), Presented .recordTake p m s → readOne 1 m.body = some n →
    TablesCanonical s → QueuesInBounds s → AccountsLawful s → ContextsListed s → Rested s →
    ((n = 0 ∨ 16 < n) → AnsweredOnly .recordTake p m .invalid [] s)
    ∧ (1 ≤ n → n ≤ 16 → s.crq = [] → AnsweredOnly .recordTake p m .ok (beBytes 1 0 ++ beBytes 2 0) s)
    ∧ (1 ≤ n → n ≤ 16 → s.crq ≠ [] → ∃ t, exec (.recordTake p) s = .next t
        ∧ Answered p m .ok (recordsBody (s.crq.take n) t) s t
        ∧ (∀ room, room = 256 - (s.crq.drop n).length →
            t.crq = s.crq.drop n ++ s.waitingRecords.take room ∧ WaitingTaken room s t)
        ∧ (∀ a sum, sum = (s.account a).delivered + (((s.crq.take n).filter fun r => r.account = a).map (·.charge)).sum →
            t.account a = { s.account a with
              delivered := min 281474976710655 sum, clipped := (s.account a).clipped || decide (281474976710655 < sum),
              carry := (t.account a).carry })
        ∧ ClosingsEnded s t
        ∧ (∀ h, t.session h = s.session h
            ∨ t.session h = none ∧ ∃ x, s.session h = some x ∧ x.phase.isClosing = true ∧ s.queuedFrames h = 0)
        ∧ SameButPorts { s with crq := t.crq, accounts := t.accounts, slots := t.slots, sealList := t.sealList,
                                sessions := t.sessions } t
        ∧ (s.waitingRecords = [] → Quiet s t))

/-- INTERVAL_DEADLINE (R122 to R124, R143): the context closes: its residue is rounded, half a unit and more up, the unit is
charged to its account, and its USAGE record joins the queue, or, with the queue full, the context is SEALED. Flags and causes that
the charge brings up are told (R79, R80, R135, R137). Before the deadline there is nothing to act on (log entry 3). -/
def Obligations.IntervalClosesTheContext : Prop :=
  ∀ (i : Fin 64) (s : State), Rested s → AccountsLawful s → FundsFollowed s →
    (∀ x d, s.openContext i.val = some (x, d) → d ≤ s.now →
      ∃ t, exec (.intervalDeadline i) s = .next t ∧ ContextClosed i.val x .interval s t ∧ FundsReached s t
        ∧ (TablesCanonical s → NoticesLawful s → GainsTold s t)
        ∧ (x.residue < 524288 → t.accounts = s.accounts ∧ t.sessions = s.sessions)
        ∧ SameButPorts { s with slots := t.slots, openList := t.openList, sealList := t.sealList, crq := t.crq,
                                accounts := t.accounts, sessions := t.sessions } t)
    ∧ ((∀ x d, s.openContext i.val = some (x, d) → s.now < d) → exec (.intervalDeadline i) s = .next s)

/-! ### The frame path (05) and the meter's part in it (06) -/

/-- UPLINK_FRAME (R90, R95, R97, R98): the checks in order, a dropped frame leaving nothing but its counter; an admitted frame
joins the tail of its class queue on the bound link of its session's route, and the class's hold latch is set where the
occupancy reaches the high mark. -/
def Obligations.UplinkFramesAreCheckedAndAdmitted : Prop :=
  ∀ (tag : Nat) (source : BitVec 32) (length : Nat) (s : State),
    (length < 40 ∨ 2048 < length → exec (.uplinkFrame tag source length) s = .next (s.count (.uplink .malformed) 1))
    ∧ (40 ≤ length → length ≤ 2048 →
      (s.tagEntry tag = none → exec (.uplinkFrame tag source length) s = .next (s.count (.uplink .noBearer) 1))
      ∧ ∀ h c x, s.tagEntry tag = some (h, c) → s.session h = some x →
        ((∃ d, x.phase = .parked d) → exec (.uplinkFrame tag source length) s = .next (s.count (.uplink .parked) 1))
        ∧ ((∀ d, x.phase ≠ .parked d) →
          (source ≠ x.address → exec (.uplinkFrame tag source length) s = .next (s.count (.uplink .spoof) 1))
          ∧ (source = x.address → ∀ free : Prop,
              (free ↔ (x.causes.funds = false ∧ x.causes.barred = false ∧ x.causes.roaming = false) ∨ c = .c0) →
            (¬free → exec (.uplinkFrame tag source length) s = .next (s.count (.uplink .restricted) 1))
            ∧ (free → (s.route x.group).bound = none →
                exec (.uplinkFrame tag source length) s = .next (s.count (.uplink .dark) 1))
            ∧ (free → ∀ k blocks, (s.route x.group).bound = some k → blocks = (length + 255) / 256 →
              ((s.link k).share < occupancyAll (s.linkQueues k).frames + blocks →
                exec (.uplinkFrame tag source length) s = .next (s.count (.uplink .full) 1))
              ∧ (occupancyAll (s.linkQueues k).frames + blocks ≤ (s.link k).share →
                ∃ t, exec (.uplinkFrame tag source length) s = .next t
                  ∧ t = { s with queues := t.queues } ∧ (∀ j, j ≠ k → t.linkQueues j = s.linkQueues j)
                  ∧ (t.linkQueues k).frames.get c = (s.linkQueues k).frames.get c ++
                      [{ direction := .up, session := h, cls := c, route := some x.group, link := some k, length := length,
                         blocks := blocks, arrival := s.now }]
                  ∧ (t.linkQueues k).latch.get c =
                      ((s.linkQueues k).latch.get c
                        || decide (occupancy ((s.linkQueues k).frames.get c) < ((s.link k).marks.get c).high
                            ∧ ((s.link k).marks.get c).high ≤ occupancy ((s.linkQueues k).frames.get c) + blocks))
                  ∧ ∀ b, b ≠ c → (t.linkQueues k).frames.get b = (s.linkQueues k).frames.get b
                      ∧ (t.linkQueues k).latch.get b = (s.linkQueues k).latch.get b)))))

/-- DOWNLINK_FRAME (R90, R99, R100): the frame is counted as received, whatever becomes of it; then the checks in order, a
dropped frame leaving nothing but its counter; an admitted frame joins the tail of its class queue in the pool. -/
def Obligations.DownlinkFramesAreCheckedAndAdmitted : Prop :=
  ∀ (k : LinkId) (address : BitVec 32) (c : TrafficClass) (length : Nat) (s u : State), TablesCanonical s →
    IdentitiesDistinct s →
    u = (s.count (.framesReceived k) 1).count (.bytesReceived k) length →
    ∀ drop : DownlinkDrop → Prop,
      (∀ why, drop why ↔ exec (.downlinkFrame k address c length) s = .next (u.count (.downlink why) 1)) →
    ((s.link k).state ∉ [.standby, .active, .retiring] → drop .linkState)
    ∧ ((s.link k).state ∈ [.standby, .active, .retiring] →
      (length < 40 ∨ 2048 < length → drop .malformed)
      ∧ (40 ≤ length → length ≤ 2048 →
        ((∀ h x, s.session h = some x → x.address ≠ address) → drop .unknown)
        ∧ ∀ h x, s.session h = some x → x.address = address →
          (x.phase.isClosing = true → drop .gone)
          ∧ ((∃ d, x.phase = .parked d) → drop .parked)
          ∧ (x.phase = .active → ∀ free : Prop,
              (free ↔ (x.causes.funds = false ∧ x.causes.barred = false ∧ x.causes.roaming = false) ∨ c = .c0) →
            (¬free → drop .restricted)
            ∧ (free → ∀ blocks, blocks = (length + 255) / 256 →
              (s.poolShare < occupancyAll s.pool + blocks → drop .full)
              ∧ (occupancyAll s.pool + blocks ≤ s.poolShare →
                exec (.downlinkFrame k address c length) s = .next
                  { u with pool := s.pool.set c (s.pool.get c ++
                      [{ direction := .down, session := h, cls := c, route := none, link := none, length := length,
                         blocks := blocks, arrival := s.now }]) })))))

/-- TRANSMIT_OPPORTUNITY (R101 to R103, R105, R115 to R121): the class chosen is the one of highest level above the floor,
the first in class order among equals; overaged heads are discarded and counted as AGED; the first head that is not is sent,
counted and metered, and FUNDS_OUT, LOW_BALANCE and SESSION_RESTRICTED are told where the charge sets a flag (R79, R80, R135, R137).
With none, the opportunity passes unused. The latches, drains and link states follow; closing sessions whose last frames leave come
to their end, in rising order of handle, their contexts closed in class order (R77, R143; the place of the metering among them is log
entry 7). -/
def Obligations.TransmitSendsTheChosenHead : Prop :=
  ∀ (k : LinkId) (s : State), Lawful s → ∃ t, exec (.transmitOpportunity k) s = .next t
    ∧ SameSettings s t ∧ t.zone = s.zone ∧ t.pool = s.pool ∧ t.bearerMap = s.bearerMap
    ∧ LinkLeft k s t ∧ ClosingsEnded s t ∧ (∀ p, PortKept (s.port p) (t.port p))
    ∧ (∀ c m, m = (s.link k).marks.get c → (t.linkQueues k).latch.get c =
        ((s.linkQueues k).latch.get c
          && !decide (m.low < occupancy ((s.linkQueues k).frames.get c)
              ∧ occupancy ((t.linkQueues k).frames.get c) ≤ m.low)))
    ∧ (∀ c, s.mayChoose k c → (∀ b, s.before k b c → ∀ f ∈ (s.linkQueues k).frames.get b, s.tooOld f) →
        ∀ old f rest x, (s.linkQueues k).frames.get c = old ++ f :: rest → (∀ g ∈ old, s.tooOld g) → ¬s.tooOld f →
          s.session f.session = some x →
          (t.linkQueues k).frames.get c = rest
          ∧ (∀ b, s.before k b c → (t.linkQueues k).frames.get b = []
              ∧ t.counter (.aged k b) = s.counter (.aged k b)
                  + BitVec.ofNat 40 ((s.linkQueues k).frames.get b).length)
          ∧ (∀ b, b ≠ c → ¬s.before k b c → (t.linkQueues k).frames.get b = (s.linkQueues k).frames.get b
              ∧ t.counter (.aged k b) = s.counter (.aged k b))
          ∧ t.counter (.aged k c) = s.counter (.aged k c) + BitVec.ofNat 40 old.length
          ∧ t.counter (.framesSent k) = s.counter (.framesSent k) + 1
          ∧ t.counter (.bytesSent k) = s.counter (.bytesSent k) + BitVec.ofNat 40 f.length
          ∧ (∀ n, n ≠ .framesSent k → n ≠ .bytesSent k → (∀ b, n ≠ .aged k b) → t.counter n = s.counter n)
          ∧ (NoContextHad f.session c s → ToldOnce s t .pp .unrecorded x.account)
          ∧ (NoneClosing s → FundsReached s t) ∧ GainsTold s t
          ∧ MeteredAmongClosings f.session x c .up f.length s t)
    ∧ ((∀ c, s.mayChoose k c → ∀ f ∈ (s.linkQueues k).frames.get c, s.tooOld f) →
        (∀ c, s.mayChoose k c → (t.linkQueues k).frames.get c = []
          ∧ t.counter (.aged k c) = s.counter (.aged k c) + BitVec.ofNat 40 ((s.linkQueues k).frames.get c).length)
        ∧ (∀ c, ¬s.mayChoose k c → (t.linkQueues k).frames.get c = (s.linkQueues k).frames.get c
            ∧ t.counter (.aged k c) = s.counter (.aged k c))
        ∧ (∀ n, (∀ b, n ≠ .aged k b) → t.counter n = s.counter n)
        ∧ (NoneClosing s → SameMoney s t ∧ t.sessions = s.sessions) ∧ ClosingsRecorded s t)

/-- DELIVERY_OPPORTUNITY (R102, R104, R115 to R121): the pool's queues are walked in class order; overaged heads are discarded
and counted as AGED; the first head that is not is delivered and metered, with what the charge brings up told (R79, R80, R135, R137).
With none, the opportunity passes unused. Closing sessions that it empties come to their end (R77, R143; the place of the metering
among them is log entry 7). -/
def Obligations.DeliveryTakesTheFirstPoolFrame : Prop :=
  ∀ s : State, Lawful s → ∃ t, exec .deliveryOpportunity s = .next t
    ∧ SameSettings s t ∧ t.zone = s.zone ∧ SamePaths s t ∧ t.bearerMap = s.bearerMap ∧ ClosingsEnded s t
    ∧ (∀ p, PortKept (s.port p) (t.port p))
    ∧ (∀ c old f rest x, s.pool.get c = old ++ f :: rest → (∀ g ∈ old, s.tooOld g) → ¬s.tooOld f →
        (∀ b : TrafficClass, b.number < c.number → ∀ g ∈ s.pool.get b, s.tooOld g) → s.session f.session = some x →
        t.pool.get c = rest
          ∧ (∀ b : TrafficClass, b.number < c.number → t.pool.get b = []
              ∧ t.counter (.agedPool b) = s.counter (.agedPool b) + BitVec.ofNat 40 (s.pool.get b).length)
          ∧ (∀ b : TrafficClass, c.number < b.number → t.pool.get b = s.pool.get b
              ∧ t.counter (.agedPool b) = s.counter (.agedPool b))
          ∧ t.counter (.agedPool c) = s.counter (.agedPool c) + BitVec.ofNat 40 old.length
          ∧ (∀ n, (∀ b, n ≠ .agedPool b) → t.counter n = s.counter n)
          ∧ (NoContextHad f.session f.cls s → ToldOnce s t .pp .unrecorded x.account)
          ∧ (NoneClosing s → FundsReached s t) ∧ GainsTold s t
          ∧ MeteredAmongClosings f.session x f.cls .down f.length s t)
    ∧ ((∀ c, ∀ f ∈ s.pool.get c, s.tooOld f) →
        (∀ c, t.pool.get c = []
          ∧ t.counter (.agedPool c) = s.counter (.agedPool c) + BitVec.ofNat 40 (s.pool.get c).length)
        ∧ (∀ n, (∀ b, n ≠ .agedPool b) → t.counter n = s.counter n)
        ∧ (NoneClosing s → SameMoney s t ∧ t.sessions = s.sessions) ∧ ClosingsRecorded s t)

/-! ### Notices and counters (09) -/

/-- SET_LEVEL and NOTICE_SETUP (R163 to R166): the level, the pacing interval and the kind levels are put into force, a slot
that is pending keeps what it holds or is sent, and the port's arbiter runs behind the response until nothing may be chosen,
the queue is full, or its last place waits for a response (log entry 6; the layout of NOTICE_SETUP's answer is log entry 15; which
code a refusal names where several offend, log entry 41). -/
def Obligations.NoticeSettingsArePutInForce : Prop :=
  (∀ (p : Port) (m : Message) (n : Nat) (s : State), Presented .setLevel p m s → readOne 1 m.body = some n →
    NoticesLawful s →
    ∃ t, exec (.setLevel p) s = .next t ∧ SameButPorts s t ∧ Quiet s t
      ∧ (t.port p).settings = ((s.port p).startFlag, (s.port p).sync, min 3 n, (s.port p).settings.2.2.2)
      ∧ PortAnswered (s.port p) (t.port p) (responseTo p m .ok
          (beBytes 1 (min 3 n) ++ beBytes 1 ((s.port p).slots.countP fun sl => sl.pending.isSome)) t)
      ∧ (∀ q, q ≠ p → PortKept (s.port q) (t.port q))
      ∧ (∀ k g, s.gathered p k = some g → Told t p k g)
      ∧ ((t.port p).contested = true ∨ 32 ≤ (t.port p).outbound.length ∨ (t.port p).chosen = none))
  ∧ ∀ (p : Port) (m : Message) (f : NoticeSetupFields) (s : State), Presented .noticeSetup p m s →
    readNoticeSetup m.body = some f → NoticesLawful s → ∀ codes, codes = (s.port p).slots.map (fun sl => sl.kind.code) →
    (codes.length < f.entries.length → AnsweredOnly .noticeSetup p m .invalid [] s)
    ∧ (f.entries.length ≤ codes.length →
        (∀ before e after, f.entries = before ++ e :: after → (∀ a ∈ before, a.1 ∈ codes) → e.1 ∉ codes →
          AnsweredOnly .noticeSetup p m .invalid (beBytes 1 e.1) s)
        ∧ ((∀ e ∈ f.entries, e.1 ∈ codes) →
            (∀ before c after, f.entries.map (·.1) = before ++ c :: after → c ∈ after →
              (∀ a ∈ before, (f.entries.map (·.1)).count a = 1) →
              AnsweredOnly .noticeSetup p m .invalid (beBytes 1 c) s)
            ∧ ((f.entries.map (·.1)).Nodup → ∃ t, exec (.noticeSetup p) s = .next t ∧ SameButPorts s t ∧ Quiet s t
              ∧ (∀ pacing levels, pacing = (match f.pacing with | some v => min 1000 v | none => (s.port p).pacing) →
                  levels = ((s.port p).slots.map fun sl => (sl.kind, match f.entries.lookup sl.kind.code with
                    | some l => if sl.level = 4 ∨ l = 0 then sl.level else min 3 l
                    | none => sl.level)) →
                  (t.port p).settings = ((s.port p).startFlag, (s.port p).sync, (s.port p).level, pacing,
                    (s.port p).baselines, levels)
                  ∧ PortAnswered (s.port p) (t.port p) (responseTo p m .ok
                      (beBytes 2 pacing ++ listBytes (fun l => beBytes 1 l.2) levels) t))
              ∧ (∀ q, q ≠ p → PortKept (s.port q) (t.port q))
              ∧ (∀ k g, s.gathered p k = some g → Told t p k g)
              ∧ ((t.port p).contested = true ∨ 32 ≤ (t.port p).outbound.length ∨ (t.port p).chosen = none))))

/-- COUNTERS_READ (R169, R170): a code above 2 is refused; else each counter of the group is reported less the port's baseline
for it, modulo 2^40, and the baselines of the group move to the present values. A counter that is raised wraps past its top.
(Which number is whose counter is log entry 45; that the values have no count byte, log entry 15.) -/
def Obligations.CountersAreReadAgainstBaselines : Prop :=
  (∀ (p : Port) (m : Message) (code : Nat) (s : State), Presented .countersRead p m s → readOne 1 m.body = some code →
    (2 < code → AnsweredOnly .countersRead p m .invalid [] s)
    ∧ ∀ lo n, (code, lo, n) ∈ [(0, 0, 24), (1, 24, 92), (2, 116, 7)] →
      ∃ t, exec (.countersRead p) s = .next t ∧ SameButPorts s t ∧ Quiet s t
        ∧ (t.port p).settings = ((s.port p).startFlag, (s.port p).sync, (s.port p).level, (s.port p).pacing,
            (t.port p).baselines, (s.port p).slots.map fun sl => (sl.kind, sl.level))
        ∧ (∀ i, counterValue (t.port p).baselines i =
            if lo ≤ i ∧ i < lo + n then counterValue s.counters i else counterValue (s.port p).baselines i)
        ∧ PortAnswered (s.port p) (t.port p) (responseTo p m .ok
            ((List.range n).flatMap fun i =>
              beBytes 6 (counterValue s.counters (lo + i) - counterValue (s.port p).baselines (lo + i)).toNat) t)
        ∧ ∀ q, q ≠ p → PortKept (s.port q) (t.port q))
  ∧ (∀ (c d : Counter) (n : Nat) (s : State),
      (s.count c n).counter d = if d = c then s.counter c + BitVec.ofNat 40 n else s.counter d)
  ∧ (1099511627000 : BitVec 40) + 1500 = 724

/-- NOTICE_CHOICE and PACING_DEADLINE (R163, R166, R167): with room in the queue, of the pending slots above the port's level,
URGENT or with no pacing deadline standing, the one of highest level, the first in kind order among equals, is sent and is
no longer pending; a notice that is not URGENT sets the pacing deadline. A pacing deadline that is reached becomes absent and
the arbiter runs, and may stop at a last place that waits for a response (log entry 6). With nothing to choose, and before the
deadline, there is nothing to act on (log entry 3). -/
def Obligations.NoticesAreChosenByLevelAndPaced : Prop :=
  (∀ (p : Port) (s : State) (may : NoticeSlot → Prop), NoticesLawful s →
    (∀ sl, may sl ↔ sl.pending.isSome = true ∧ (s.port p).level < sl.level
      ∧ (sl.level = 4 ∨ (s.port p).pacingDeadline = none)) →
    (∀ before sl after g, (s.port p).outbound.length < 32 → (s.port p).slots = before ++ sl :: after → may sl →
      sl.pending = some g → (∀ o ∈ before, may o → o.level < sl.level) → (∀ o ∈ after, may o → o.level ≤ sl.level) →
      exec (.noticeChoice p) s = .next (s.setPort p { s.port p with
        outbound := (s.port p).outbound ++ [{
          mtype := 3, code := BitVec.ofNat 8 sl.kind.code, tag := 0, response := 0, status := s.statusByte,
          port := BitVec.ofNat 8 p.number,
          body := beBytes 2 g.subject ++ beBytes 1 g.count ++ beBytes 1 sl.level ++ beBytes 8 g.firstTime }]
        slots := before ++ { sl with pending := none } :: after
        pacingDeadline := if sl.level = 4 ∨ (s.port p).pacing = 0 then (s.port p).pacingDeadline
          else some (s.now + (s.port p).pacing) }))
    ∧ (32 ≤ (s.port p).outbound.length ∨ (∀ sl ∈ (s.port p).slots, ¬may sl) → exec (.noticeChoice p) s = .next s))
  ∧ (∀ (p : Port) (s : State) (d : Nat), NoticesLawful s → (s.port p).pacingDeadline = some d → d ≤ s.now →
    ∃ t, exec (.pacingDeadline p) s = .next t ∧ SameButPorts s t ∧ (∀ q, q ≠ p → t.port q = s.port q) ∧ Quiet s t
      ∧ (t.port p).settings = (s.port p).settings ∧ (t.port p).inbound = (s.port p).inbound
      ∧ (∃ sent, (t.port p).outbound = (s.port p).outbound ++ sent ∧ OnlyNotices sent)
      ∧ (∀ k g, s.gathered p k = some g → Told t p k g)
      ∧ ((t.port p).contested = true ∨ 32 ≤ (t.port p).outbound.length ∨ (t.port p).chosen = none)
      ∧ ((∀ sl ∈ (s.port p).slots, sl.pending.isSome = true → sl.level ≤ (s.port p).level) →
          t = s.setPort p { s.port p with pacingDeadline := none }))
  ∧ ∀ (p : Port) (s : State), (∀ d, (s.port p).pacingDeadline = some d → s.now < d) →
      exec (.pacingDeadline p) s = .next s

/-! ### What every step keeps -/

/-- Ports (R143, R147, R161 to R165): every step keeps the queues in their bounds, the notice settings and counts in their
ranges, and no condition's slot pending while the condition does not hold. -/
def Obligations.EveryStepKeepsPortsLawful : Prop := Kept QueuesInBounds ∧ Kept NoticesLawful ∧ Kept ConditionsFollowed

/-- Every step keeps the sparse tables of the state in canonical form, so that equal states are equal data. -/
def Obligations.EveryStepKeepsTablesCanonical : Prop := Kept TablesCanonical

/-- Links and routes (R19, R21, R25, R32 to R35, R39, R91, section 4.5): every step keeps each link record in its ranges, with
its enable line, deadlines and flags as its state and quality say, the shares within the frame store, and each route record
with what its swap state calls for. -/
def Obligations.EveryStepKeepsLinksAndRoutesLawful : Prop := Kept LinksLawful ∧ Kept RoutesLawful

/-- The zone tracker (R1 to R3, R11, R12, R14) and the accounts (R137): every step keeps the table, the current segment and the
run lawful, and FUNDS and LOW as the balance, the cap and the threshold say. -/
def Obligations.EveryStepKeepsTrackerAndAccountsLawful : Prop := Kept ZoneLawful ∧ Kept AccountsLawful

/-- Sessions (R68, R69, R80, R134): every step keeps each session on an OPEN account and with FUNDS as its account's flag is,
the bearer map as the sessions' bearers are, and digests and addresses distinct. -/
def Obligations.EveryStepKeepsSessionsDistinct : Prop := Kept FundsFollowed ∧ Kept BearersMapped ∧ Kept IdentitiesDistinct

/-- Paths (R31, R38, R45, R47, R49, R63, R90, R91, R94, R95): a step of a lawful state leaves each bound link ACTIVE, permitted
and usable, no frame on a link that is neither ACTIVE nor RETIRING, every frame on a route that is bound to its link or draining
on it, the queues within the shares, the latches as the occupancy says, nothing in hand while CONFIGURING, and no closing session
that could come to its end. -/
def Obligations.EveryStepKeepsFramesOnTheirPaths : Prop :=
  KeptWithin ConfiguringIdle ∧ KeptWithin PathsLawful ∧ KeptWithin LatchesLawful ∧ KeptWithin ClosingsWait

/-- Charge (R112, R114, R118 to R120, R134, R144, R146): every step keeps the open and seal lists; a step of a lawful state leaves
each context with the exact worth of its bytes, the record queue full whenever a context is SEALED or a carry holds a charge, and
the rated total of each OPEN account, below its ceiling, is the charge delivered, waiting in the queue, held in contexts and
carried. -/
def Obligations.EveryStepKeepsTheBooksBalanced : Prop :=
  Kept ContextsListed ∧ KeptWithin MeterLawful ∧ KeptWithin RecordsFillTheQueue ∧ KeptWithin BooksBalance
end

