-- ==== Sys2Proof/Laws/Table.lean ====
section
/-! SUPPORT. Reading a sparse table after writing it, and the canonical form every write keeps. -/

namespace Sys2Proof

theorem Table.lookup_without_self {α : Type} (k : Nat) :
    ∀ l : List (Nat × α), Table.lookup (Table.without l k) k = none
  | [] => rfl
  | (j, v) :: rest => by
    by_cases h : k = j
    · subst h; simp [Table.without, Table.lookup_without_self k rest]
    · simp [Table.without, h, Table.lookup, Table.lookup_without_self k rest]

theorem Table.lookup_without_ne {α : Type} {i k : Nat} (hik : i ≠ k) :
    ∀ l : List (Nat × α), Table.lookup (Table.without l k) i = Table.lookup l i
  | [] => rfl
  | (j, v) :: rest => by
    by_cases h : k = j
    · subst h; simp [Table.without, Table.lookup, hik, Table.lookup_without_ne hik rest]
    · simp [Table.without, h, Table.lookup, Table.lookup_without_ne hik rest]

theorem Table.lookup_place_self {α : Type} (k : Nat) (v : α) :
    ∀ l : List (Nat × α), Table.lookup l k = none → Table.lookup (Table.place l k v) k = some v
  | [], _ => by simp [Table.place, Table.lookup]
  | (j, w) :: rest, h => by
    by_cases hj : k = j
    · simp [Table.lookup, hj] at h
    · simp only [Table.lookup, hj, if_false] at h
      unfold Table.place
      split
      · simp [Table.lookup]
      · simp [Table.lookup, hj, Table.lookup_place_self k v rest h]

theorem Table.lookup_place_ne {α : Type} {i k : Nat} (hik : i ≠ k) (v : α) :
    ∀ l : List (Nat × α), Table.lookup (Table.place l k v) i = Table.lookup l i
  | [] => by simp [Table.place, Table.lookup, hik]
  | (j, w) :: rest => by
    unfold Table.place
    split
    · simp [Table.lookup, hik]
    · simp [Table.lookup, Table.lookup_place_ne hik v rest]

/-- A table reads at a key what was last put there. -/
@[simp] theorem Table.get?_put_self {α : Type} (t : Table α) (k : Nat) (v : Option α) : (t.put k v).get? k = v := by
  cases v with
  | none => exact Table.lookup_without_self k t.entries
  | some x => exact Table.lookup_place_self k x _ (Table.lookup_without_self k t.entries)

/-- A put leaves every other key alone. -/
theorem Table.get?_put_ne {α : Type} (t : Table α) {i k : Nat} (h : i ≠ k) (v : Option α) :
    (t.put k v).get? i = t.get? i := by
  cases v with
  | none => exact Table.lookup_without_ne h t.entries
  | some x =>
    exact (Table.lookup_place_ne h x _).trans (Table.lookup_without_ne h t.entries)

theorem Table.get?_put {α : Type} (t : Table α) (i k : Nat) (v : Option α) :
    (t.put k v).get? i = if i = k then v else t.get? i := by
  split
  · subst i; simp
  · exact t.get?_put_ne ‹_› v

@[simp] theorem Table.get?_empty {α : Type} (k : Nat) : (Table.empty : Table α).get? k = none := rfl

/-- The keys that have an entry are those that read as one. -/
theorem Table.mem_keys_iff {α : Type} (t : Table α) (k : Nat) : k ∈ t.keys ↔ (t.get? k).isSome = true := by
  obtain ⟨l⟩ := t
  simp only [Table.keys, Table.get?]
  induction l with
  | nil => simp [Table.lookup]
  | cons e rest ih =>
    by_cases h : k = e.1
    · simp [Table.lookup, h]
    · simpa [Table.lookup, h] using ih

/-- A value that is read stands in the table under its key. -/
theorem Table.lookup_mem {α : Type} {k : Nat} {v : α} : ∀ {l : List (Nat × α)}, Table.lookup l k = some v → (k, v) ∈ l
  | (j, w) :: rest, h => by
    by_cases e : k = j
    · subst e
      obtain rfl : w = v := by simpa [Table.lookup] using h
      exact List.mem_cons_self
    · exact List.mem_cons_of_mem _ (Table.lookup_mem (by simpa [Table.lookup, e] using h))

/-! ### The canonical form -/

/-- A list of keys rises strictly. -/
theorem Table.risingKeys_iff : ∀ l : List Nat, Table.risingKeys l = true ↔ l.Pairwise (· < ·)
  | [] => by simp [Table.risingKeys]
  | [_] => by simp [Table.risingKeys]
  | j :: k :: rest => by
    rw [Table.risingKeys, Bool.and_eq_true, decide_eq_true_iff, Table.risingKeys_iff (k :: rest)]
    constructor
    · intro ⟨h, hp⟩
      refine List.pairwise_cons.2 ⟨fun x hx => ?_, hp⟩
      rcases List.mem_cons.1 hx with rfl | hx
      · exact h
      · exact Nat.lt_trans h ((List.pairwise_cons.1 hp).1 x hx)
    · intro hp
      exact ⟨(List.pairwise_cons.1 hp).1 k (by simp), (List.pairwise_cons.1 hp).2⟩

theorem Table.wf_iff {α : Type} (t : Table α) (n : Nat) :
    t.wf n = true ↔ t.keys.Pairwise (· < ·) ∧ ∀ k ∈ t.keys, k < n := by
  simp [Table.wf, Table.risingKeys_iff, List.all_eq_true]

theorem Table.without_sublist {α : Type} (k : Nat) : ∀ l : List (Nat × α), (Table.without l k).Sublist l
  | [] => List.Sublist.slnil
  | (j, v) :: rest => by
    unfold Table.without
    split
    · exact (Table.without_sublist k rest).cons _
    · exact (Table.without_sublist k rest).cons_cons _

theorem Table.not_mem_without {α : Type} (k : Nat) (l : List (Nat × α)) : k ∉ (Table.without l k).map (·.1) := by
  intro h
  have := (Table.mem_keys_iff ⟨Table.without l k⟩ k).1 h
  simp [Table.get?, Table.lookup_without_self] at this

theorem Table.mem_place {α : Type} (k : Nat) (v : α) (e : Nat × α) :
    ∀ l : List (Nat × α), e ∈ Table.place l k v ↔ e = (k, v) ∨ e ∈ l
  | [] => by simp [Table.place]
  | (j, w) :: rest => by
    unfold Table.place
    split
    · simp
    · simp [Table.mem_place k v e rest, or_left_comm]

theorem Table.place_rising {α : Type} (k : Nat) (v : α) :
    ∀ l : List (Nat × α), (l.map (·.1)).Pairwise (· < ·) → k ∉ l.map (·.1) →
      ((Table.place l k v).map (·.1)).Pairwise (· < ·)
  | [], _, _ => by simp [Table.place]
  | (j, w) :: rest, hp, hk => by
    simp only [List.map_cons, List.mem_cons, not_or, List.pairwise_cons] at hp hk
    unfold Table.place
    split
    · rename_i hlt
      simp only [List.map_cons, List.pairwise_cons]
      refine ⟨fun x hx => ?_, hp⟩
      rcases List.mem_cons.1 hx with rfl | hx
      · exact hlt
      · exact Nat.lt_trans hlt (hp.1 x hx)
    · rename_i hlt
      simp only [List.map_cons, List.pairwise_cons]
      refine ⟨fun x hx => ?_, Table.place_rising k v rest hp.2 hk.2⟩
      obtain ⟨e, he, rfl⟩ := List.mem_map.1 hx
      rcases (Table.mem_place k v e rest).1 he with rfl | he
      · show j < k; omega
      · exact hp.1 _ (List.mem_map_of_mem he)

/-- Every put keeps the keys rising. -/
theorem Table.put_rising {α : Type} (t : Table α) (k : Nat) (v : Option α) (h : t.keys.Pairwise (· < ·)) :
    (t.put k v).keys.Pairwise (· < ·) := by
  have hw : ((Table.without t.entries k).map (·.1)).Pairwise (· < ·) :=
    h.sublist ((Table.without_sublist k t.entries).map _)
  cases v with
  | none => exact hw
  | some x => exact Table.place_rising k x _ hw (Table.not_mem_without k t.entries)

/-- The entries of a table after a put are the new one and old ones. -/
theorem Table.mem_put {α : Type} {t : Table α} {k : Nat} {v : Option α} {e : Nat × α} (h : e ∈ (t.put k v).entries) :
    (∃ x, v = some x ∧ e = (k, x)) ∨ e ∈ t.entries := by
  cases v with
  | none => exact .inr ((Table.without_sublist k t.entries).subset h)
  | some x =>
    rcases (Table.mem_place k x e _).1 h with rfl | h
    · exact .inl ⟨x, rfl, rfl⟩
    · exact .inr ((Table.without_sublist k t.entries).subset h)

/-- Every put in range keeps the canonical form; a removal needs no range. -/
theorem Table.wf_put {α : Type} {t : Table α} {n : Nat} (k : Nat) (v : Option α) (h : t.wf n = true)
    (hk : v.isSome = true → k < n) : (t.put k v).wf n = true := by
  obtain ⟨hp, hn⟩ := (Table.wf_iff t n).1 h
  refine (Table.wf_iff _ n).2 ⟨t.put_rising k v hp, fun j hj => ?_⟩
  obtain ⟨e, he, rfl⟩ := List.mem_map.1 hj
  rcases Table.mem_put he with ⟨x, rfl, rfl⟩ | he
  · exact hk rfl
  · exact hn _ (List.mem_map_of_mem he)

/-- A key that a canonical table reads lies in its range. -/
theorem Table.lt_of_get? {α : Type} {t : Table α} {n k : Nat} {x : α} (h : t.wf n = true) (hk : t.get? k = some x) :
    k < n :=
  ((Table.wf_iff t n).1 h).2 k ((t.mem_keys_iff k).2 (by simp [hk]))

/-- What a table reads is one of its entries. -/
theorem Table.mem_of_get? {α : Type} {t : Table α} {k : Nat} {x : α} (h : t.get? k = some x) : (k, x) ∈ t.entries := by
  obtain ⟨l⟩ := t
  simp only [Table.get?] at h
  induction l with
  | nil => simp [Table.lookup] at h
  | cons e rest ih =>
    obtain ⟨j, v⟩ := e
    by_cases hj : k = j
    · subst hj
      simp only [Table.lookup, if_true, Option.some.injEq] at h
      subst h
      exact List.mem_cons_self
    · simp only [Table.lookup, hj, if_false] at h
      exact List.mem_cons_of_mem _ (ih h)

/-- An entry of a table whose keys rise is what the table reads at its key. -/
theorem Table.get?_of_mem {α : Type} {t : Table α} (hp : t.keys.Pairwise (· < ·)) {k : Nat} {x : α}
    (h : (k, x) ∈ t.entries) : t.get? k = some x := by
  obtain ⟨l⟩ := t
  simp only [Table.keys, Table.get?] at *
  induction l with
  | nil => cases h
  | cons e rest ih =>
    simp only [List.map_cons, List.pairwise_cons] at hp
    obtain ⟨j, w⟩ := e
    rcases List.mem_cons.1 h with h | h
    · obtain ⟨rfl, rfl⟩ := Prod.mk.injEq .. ▸ h
      simp [Table.lookup]
    · have hlt : j < k := hp.1 k (List.mem_map_of_mem (f := (·.1)) h)
      have hne : ¬ k = j := by omega
      simp only [Table.lookup, hne, if_false]
      exact ih hp.2 h

end Sys2Proof
end

