-- ==== Sys2Proof/Laws/Closings.lean ====
section
/-! SUPPORT. The end of closing leaves a state alone in which every closing session waits, and what publishing a crossing is. -/

namespace Sys2Proof.Machine

/-! ### The end of closing (R77, R78, R105) -/

/-- A session without an OPEN context has none to be found. -/
theorem State.findOpen_none {s : State} {h : Nat} (none : s.openContexts h = 0) (c : TrafficClass) : s.findOpen h c = .none := by
  refine List.find?_eq_none.2 fun i _ found => ?_
  unfold State.openContext at found
  cases e : s.slot i with
  | none => simp [e] at found
  | some v =>
    cases v with
    | sealed => simp [e] at found
    | opened x d =>
      have mine : x.session = h := by simpa [e] using (by simpa [e] using found : x.session = h ∧ x.cls = c).1
      exact (List.countP_eq_zero.1 none) (i, .opened x d) (Table.lookup_mem e) (by simp [Slot.session, Slot.isOpen, mine])

theorem closeSessionContexts_none {s : State} {h : Nat} (none : s.openContexts h = 0) (why : CloseReason) :
    closeSessionContexts h why s = s := by
  simp only [closeSessionContexts, allClasses, List.foldl, State.findOpen_none none]

theorem endClosing_waits {s : State} (w : ClosingsWait s) (h : Nat) : endClosing h s = s := by
  unfold endClosing
  cases e : s.session h with
  | none => rfl
  | some x =>
    cases p : x.phase with
    | active => simp [p]
    | parked => simp [p]
    | closing why =>
      simp only [p]
      split
      · rcases w h x e (by rw [p]; rfl) with q | ⟨o, q⟩
        · omega
        · rw [closeSessionContexts_none o, if_neg (by omega)]
      · rfl

theorem endClosings_waits {s : State} (w : ClosingsWait s) (handles : List Nat) : endClosings handles s = s := by
  unfold endClosings
  induction handles with
  | nil => rfl
  | cons h l ih => rw [List.foldl_cons, endClosing_waits w, ih]

/-- Where every closing session waits, none comes to its end. -/
theorem endAllClosing_waits {s : State} (w : ClosingsWait s) : endAllClosing s = s := endClosings_waits w _

theorem endClosingsBefore_waits {s : State} (w : ClosingsWait s) (f : Frame) : endClosingsBefore f s = s :=
  endClosings_waits w _

theorem ClosingsWait.of_none {s : State} (n : NoneClosing s) : ClosingsWait s :=
  fun h x e c => by rw [n h x e] at c; cases c

/-! ### Crossings (R15) -/

/-- With a current segment a crossing is published and answered. -/
theorem publish_current {s : State} {new : Nat × Segment} (h : s.currentRecord = some new) (cause : CrossingCause)
    (old : Option (Nat × Segment)) : publish cause old s = crossing { cause := cause, old := old, new := new } s := by
  rw [publish, h]

/-- The current segment's record is the current segment, with its index. -/
theorem State.currentRecord_segment (s : State) : s.currentRecord.map (·.2) = s.segment := by
  cases h : s.segmentIndex with
  | none => simp [State.currentRecord, State.segment, h]
  | some i => cases e : s.zone.table[i]? <;> simp [State.currentRecord, State.segment, State.segmentRecord, h, e]

end Sys2Proof.Machine
end

