-- ==== Sys2Proof/Laws/State.lean ====
section
/-! SUPPORT. What each write of a record leaves of every field, and reading a record after writing it: one lemma per field
per update. -/

namespace Sys2Proof.Machine

/-! ### `State.setLink` writes `links` alone -/

@[simp] theorem State.setLink_now (s : State) (k : LinkId) (x : Link) : (s.setLink k x).now = s.now := rfl
@[simp] theorem State.setLink_zone (s : State) (k : LinkId) (x : Link) : (s.setLink k x).zone = s.zone := rfl
@[simp] theorem State.setLink_ageLimits (s : State) (k : LinkId) (x : Link) : (s.setLink k x).ageLimits = s.ageLimits := rfl
@[simp] theorem State.setLink_poolShare (s : State) (k : LinkId) (x : Link) : (s.setLink k x).poolShare = s.poolShare := rfl
@[simp] theorem State.setLink_routes (s : State) (k : LinkId) (x : Link) : (s.setLink k x).routes = s.routes := rfl
@[simp] theorem State.setLink_sessions (s : State) (k : LinkId) (x : Link) : (s.setLink k x).sessions = s.sessions := rfl
@[simp] theorem State.setLink_bearerMap (s : State) (k : LinkId) (x : Link) : (s.setLink k x).bearerMap = s.bearerMap := rfl
@[simp] theorem State.setLink_queues (s : State) (k : LinkId) (x : Link) : (s.setLink k x).queues = s.queues := rfl
@[simp] theorem State.setLink_pool (s : State) (k : LinkId) (x : Link) : (s.setLink k x).pool = s.pool := rfl
@[simp] theorem State.setLink_slots (s : State) (k : LinkId) (x : Link) : (s.setLink k x).slots = s.slots := rfl
@[simp] theorem State.setLink_openList (s : State) (k : LinkId) (x : Link) : (s.setLink k x).openList = s.openList := rfl
@[simp] theorem State.setLink_sealList (s : State) (k : LinkId) (x : Link) : (s.setLink k x).sealList = s.sealList := rfl
@[simp] theorem State.setLink_meter (s : State) (k : LinkId) (x : Link) : (s.setLink k x).meter = s.meter := rfl
@[simp] theorem State.setLink_tariff (s : State) (k : LinkId) (x : Link) : (s.setLink k x).tariff = s.tariff := rfl
@[simp] theorem State.setLink_accounts (s : State) (k : LinkId) (x : Link) : (s.setLink k x).accounts = s.accounts := rfl
@[simp] theorem State.setLink_crq (s : State) (k : LinkId) (x : Link) : (s.setLink k x).crq = s.crq := rfl
@[simp] theorem State.setLink_service (s : State) (k : LinkId) (x : Link) : (s.setLink k x).service = s.service := rfl
@[simp] theorem State.setLink_clock (s : State) (k : LinkId) (x : Link) : (s.setLink k x).clock = s.clock := rfl
@[simp] theorem State.setLink_ports (s : State) (k : LinkId) (x : Link) : (s.setLink k x).ports = s.ports := rfl
@[simp] theorem State.setLink_counters (s : State) (k : LinkId) (x : Link) : (s.setLink k x).counters = s.counters := rfl
@[simp] theorem State.setLink_raised (s : State) (k : LinkId) (x : Link) : (s.setLink k x).raised = s.raised := rfl
@[simp] theorem State.setLink_pending (s : State) (k : LinkId) (x : Link) : (s.setLink k x).pending = s.pending := rfl

/-! ### `State.setRoute` writes `routes` alone -/

@[simp] theorem State.setRoute_now (s : State) (r : RouteId) (x : Route) : (s.setRoute r x).now = s.now := rfl
@[simp] theorem State.setRoute_zone (s : State) (r : RouteId) (x : Route) : (s.setRoute r x).zone = s.zone := rfl
@[simp] theorem State.setRoute_links (s : State) (r : RouteId) (x : Route) : (s.setRoute r x).links = s.links := rfl
@[simp] theorem State.setRoute_ageLimits (s : State) (r : RouteId) (x : Route) : (s.setRoute r x).ageLimits = s.ageLimits := rfl
@[simp] theorem State.setRoute_poolShare (s : State) (r : RouteId) (x : Route) : (s.setRoute r x).poolShare = s.poolShare := rfl
@[simp] theorem State.setRoute_sessions (s : State) (r : RouteId) (x : Route) : (s.setRoute r x).sessions = s.sessions := rfl
@[simp] theorem State.setRoute_bearerMap (s : State) (r : RouteId) (x : Route) : (s.setRoute r x).bearerMap = s.bearerMap := rfl
@[simp] theorem State.setRoute_queues (s : State) (r : RouteId) (x : Route) : (s.setRoute r x).queues = s.queues := rfl
@[simp] theorem State.setRoute_pool (s : State) (r : RouteId) (x : Route) : (s.setRoute r x).pool = s.pool := rfl
@[simp] theorem State.setRoute_slots (s : State) (r : RouteId) (x : Route) : (s.setRoute r x).slots = s.slots := rfl
@[simp] theorem State.setRoute_openList (s : State) (r : RouteId) (x : Route) : (s.setRoute r x).openList = s.openList := rfl
@[simp] theorem State.setRoute_sealList (s : State) (r : RouteId) (x : Route) : (s.setRoute r x).sealList = s.sealList := rfl
@[simp] theorem State.setRoute_meter (s : State) (r : RouteId) (x : Route) : (s.setRoute r x).meter = s.meter := rfl
@[simp] theorem State.setRoute_tariff (s : State) (r : RouteId) (x : Route) : (s.setRoute r x).tariff = s.tariff := rfl
@[simp] theorem State.setRoute_accounts (s : State) (r : RouteId) (x : Route) : (s.setRoute r x).accounts = s.accounts := rfl
@[simp] theorem State.setRoute_crq (s : State) (r : RouteId) (x : Route) : (s.setRoute r x).crq = s.crq := rfl
@[simp] theorem State.setRoute_service (s : State) (r : RouteId) (x : Route) : (s.setRoute r x).service = s.service := rfl
@[simp] theorem State.setRoute_clock (s : State) (r : RouteId) (x : Route) : (s.setRoute r x).clock = s.clock := rfl
@[simp] theorem State.setRoute_ports (s : State) (r : RouteId) (x : Route) : (s.setRoute r x).ports = s.ports := rfl
@[simp] theorem State.setRoute_counters (s : State) (r : RouteId) (x : Route) : (s.setRoute r x).counters = s.counters := rfl
@[simp] theorem State.setRoute_raised (s : State) (r : RouteId) (x : Route) : (s.setRoute r x).raised = s.raised := rfl
@[simp] theorem State.setRoute_pending (s : State) (r : RouteId) (x : Route) : (s.setRoute r x).pending = s.pending := rfl

/-! ### `State.setLinkQueues` writes `queues` alone -/

@[simp] theorem State.setLinkQueues_now (s : State) (k : LinkId) (x : LinkQueues) : (s.setLinkQueues k x).now = s.now := rfl
@[simp] theorem State.setLinkQueues_zone (s : State) (k : LinkId) (x : LinkQueues) : (s.setLinkQueues k x).zone = s.zone := rfl
@[simp] theorem State.setLinkQueues_links (s : State) (k : LinkId) (x : LinkQueues) : (s.setLinkQueues k x).links = s.links := rfl
@[simp] theorem State.setLinkQueues_ageLimits (s : State) (k : LinkId) (x : LinkQueues) : (s.setLinkQueues k x).ageLimits = s.ageLimits := rfl
@[simp] theorem State.setLinkQueues_poolShare (s : State) (k : LinkId) (x : LinkQueues) : (s.setLinkQueues k x).poolShare = s.poolShare := rfl
@[simp] theorem State.setLinkQueues_routes (s : State) (k : LinkId) (x : LinkQueues) : (s.setLinkQueues k x).routes = s.routes := rfl
@[simp] theorem State.setLinkQueues_sessions (s : State) (k : LinkId) (x : LinkQueues) : (s.setLinkQueues k x).sessions = s.sessions := rfl
@[simp] theorem State.setLinkQueues_bearerMap (s : State) (k : LinkId) (x : LinkQueues) : (s.setLinkQueues k x).bearerMap = s.bearerMap := rfl
@[simp] theorem State.setLinkQueues_pool (s : State) (k : LinkId) (x : LinkQueues) : (s.setLinkQueues k x).pool = s.pool := rfl
@[simp] theorem State.setLinkQueues_slots (s : State) (k : LinkId) (x : LinkQueues) : (s.setLinkQueues k x).slots = s.slots := rfl
@[simp] theorem State.setLinkQueues_openList (s : State) (k : LinkId) (x : LinkQueues) : (s.setLinkQueues k x).openList = s.openList := rfl
@[simp] theorem State.setLinkQueues_sealList (s : State) (k : LinkId) (x : LinkQueues) : (s.setLinkQueues k x).sealList = s.sealList := rfl
@[simp] theorem State.setLinkQueues_meter (s : State) (k : LinkId) (x : LinkQueues) : (s.setLinkQueues k x).meter = s.meter := rfl
@[simp] theorem State.setLinkQueues_tariff (s : State) (k : LinkId) (x : LinkQueues) : (s.setLinkQueues k x).tariff = s.tariff := rfl
@[simp] theorem State.setLinkQueues_accounts (s : State) (k : LinkId) (x : LinkQueues) : (s.setLinkQueues k x).accounts = s.accounts := rfl
@[simp] theorem State.setLinkQueues_crq (s : State) (k : LinkId) (x : LinkQueues) : (s.setLinkQueues k x).crq = s.crq := rfl
@[simp] theorem State.setLinkQueues_service (s : State) (k : LinkId) (x : LinkQueues) : (s.setLinkQueues k x).service = s.service := rfl
@[simp] theorem State.setLinkQueues_clock (s : State) (k : LinkId) (x : LinkQueues) : (s.setLinkQueues k x).clock = s.clock := rfl
@[simp] theorem State.setLinkQueues_ports (s : State) (k : LinkId) (x : LinkQueues) : (s.setLinkQueues k x).ports = s.ports := rfl
@[simp] theorem State.setLinkQueues_counters (s : State) (k : LinkId) (x : LinkQueues) : (s.setLinkQueues k x).counters = s.counters := rfl
@[simp] theorem State.setLinkQueues_raised (s : State) (k : LinkId) (x : LinkQueues) : (s.setLinkQueues k x).raised = s.raised := rfl
@[simp] theorem State.setLinkQueues_pending (s : State) (k : LinkId) (x : LinkQueues) : (s.setLinkQueues k x).pending = s.pending := rfl

/-! ### `State.setPort` writes `ports` alone -/

@[simp] theorem State.setPort_now (s : State) (p : Port) (x : PortState) : (s.setPort p x).now = s.now := rfl
@[simp] theorem State.setPort_zone (s : State) (p : Port) (x : PortState) : (s.setPort p x).zone = s.zone := rfl
@[simp] theorem State.setPort_links (s : State) (p : Port) (x : PortState) : (s.setPort p x).links = s.links := rfl
@[simp] theorem State.setPort_ageLimits (s : State) (p : Port) (x : PortState) : (s.setPort p x).ageLimits = s.ageLimits := rfl
@[simp] theorem State.setPort_poolShare (s : State) (p : Port) (x : PortState) : (s.setPort p x).poolShare = s.poolShare := rfl
@[simp] theorem State.setPort_routes (s : State) (p : Port) (x : PortState) : (s.setPort p x).routes = s.routes := rfl
@[simp] theorem State.setPort_sessions (s : State) (p : Port) (x : PortState) : (s.setPort p x).sessions = s.sessions := rfl
@[simp] theorem State.setPort_bearerMap (s : State) (p : Port) (x : PortState) : (s.setPort p x).bearerMap = s.bearerMap := rfl
@[simp] theorem State.setPort_queues (s : State) (p : Port) (x : PortState) : (s.setPort p x).queues = s.queues := rfl
@[simp] theorem State.setPort_pool (s : State) (p : Port) (x : PortState) : (s.setPort p x).pool = s.pool := rfl
@[simp] theorem State.setPort_slots (s : State) (p : Port) (x : PortState) : (s.setPort p x).slots = s.slots := rfl
@[simp] theorem State.setPort_openList (s : State) (p : Port) (x : PortState) : (s.setPort p x).openList = s.openList := rfl
@[simp] theorem State.setPort_sealList (s : State) (p : Port) (x : PortState) : (s.setPort p x).sealList = s.sealList := rfl
@[simp] theorem State.setPort_meter (s : State) (p : Port) (x : PortState) : (s.setPort p x).meter = s.meter := rfl
@[simp] theorem State.setPort_tariff (s : State) (p : Port) (x : PortState) : (s.setPort p x).tariff = s.tariff := rfl
@[simp] theorem State.setPort_accounts (s : State) (p : Port) (x : PortState) : (s.setPort p x).accounts = s.accounts := rfl
@[simp] theorem State.setPort_crq (s : State) (p : Port) (x : PortState) : (s.setPort p x).crq = s.crq := rfl
@[simp] theorem State.setPort_service (s : State) (p : Port) (x : PortState) : (s.setPort p x).service = s.service := rfl
@[simp] theorem State.setPort_clock (s : State) (p : Port) (x : PortState) : (s.setPort p x).clock = s.clock := rfl
@[simp] theorem State.setPort_counters (s : State) (p : Port) (x : PortState) : (s.setPort p x).counters = s.counters := rfl
@[simp] theorem State.setPort_raised (s : State) (p : Port) (x : PortState) : (s.setPort p x).raised = s.raised := rfl
@[simp] theorem State.setPort_pending (s : State) (p : Port) (x : PortState) : (s.setPort p x).pending = s.pending := rfl

/-! ### `State.setSession` writes `sessions` alone -/

@[simp] theorem State.setSession_now (s : State) (h : Nat) (x : Option Session) : (s.setSession h x).now = s.now := rfl
@[simp] theorem State.setSession_zone (s : State) (h : Nat) (x : Option Session) : (s.setSession h x).zone = s.zone := rfl
@[simp] theorem State.setSession_links (s : State) (h : Nat) (x : Option Session) : (s.setSession h x).links = s.links := rfl
@[simp] theorem State.setSession_ageLimits (s : State) (h : Nat) (x : Option Session) : (s.setSession h x).ageLimits = s.ageLimits := rfl
@[simp] theorem State.setSession_poolShare (s : State) (h : Nat) (x : Option Session) : (s.setSession h x).poolShare = s.poolShare := rfl
@[simp] theorem State.setSession_routes (s : State) (h : Nat) (x : Option Session) : (s.setSession h x).routes = s.routes := rfl
@[simp] theorem State.setSession_bearerMap (s : State) (h : Nat) (x : Option Session) : (s.setSession h x).bearerMap = s.bearerMap := rfl
@[simp] theorem State.setSession_queues (s : State) (h : Nat) (x : Option Session) : (s.setSession h x).queues = s.queues := rfl
@[simp] theorem State.setSession_pool (s : State) (h : Nat) (x : Option Session) : (s.setSession h x).pool = s.pool := rfl
@[simp] theorem State.setSession_slots (s : State) (h : Nat) (x : Option Session) : (s.setSession h x).slots = s.slots := rfl
@[simp] theorem State.setSession_openList (s : State) (h : Nat) (x : Option Session) : (s.setSession h x).openList = s.openList := rfl
@[simp] theorem State.setSession_sealList (s : State) (h : Nat) (x : Option Session) : (s.setSession h x).sealList = s.sealList := rfl
@[simp] theorem State.setSession_meter (s : State) (h : Nat) (x : Option Session) : (s.setSession h x).meter = s.meter := rfl
@[simp] theorem State.setSession_tariff (s : State) (h : Nat) (x : Option Session) : (s.setSession h x).tariff = s.tariff := rfl
@[simp] theorem State.setSession_accounts (s : State) (h : Nat) (x : Option Session) : (s.setSession h x).accounts = s.accounts := rfl
@[simp] theorem State.setSession_crq (s : State) (h : Nat) (x : Option Session) : (s.setSession h x).crq = s.crq := rfl
@[simp] theorem State.setSession_service (s : State) (h : Nat) (x : Option Session) : (s.setSession h x).service = s.service := rfl
@[simp] theorem State.setSession_clock (s : State) (h : Nat) (x : Option Session) : (s.setSession h x).clock = s.clock := rfl
@[simp] theorem State.setSession_ports (s : State) (h : Nat) (x : Option Session) : (s.setSession h x).ports = s.ports := rfl
@[simp] theorem State.setSession_counters (s : State) (h : Nat) (x : Option Session) : (s.setSession h x).counters = s.counters := rfl
@[simp] theorem State.setSession_raised (s : State) (h : Nat) (x : Option Session) : (s.setSession h x).raised = s.raised := rfl
@[simp] theorem State.setSession_pending (s : State) (h : Nat) (x : Option Session) : (s.setSession h x).pending = s.pending := rfl

/-! ### `State.setTag` writes `bearerMap` alone -/

@[simp] theorem State.setTag_now (s : State) (t : Nat) (x : Option (Nat × TrafficClass)) : (s.setTag t x).now = s.now := rfl
@[simp] theorem State.setTag_zone (s : State) (t : Nat) (x : Option (Nat × TrafficClass)) : (s.setTag t x).zone = s.zone := rfl
@[simp] theorem State.setTag_links (s : State) (t : Nat) (x : Option (Nat × TrafficClass)) : (s.setTag t x).links = s.links := rfl
@[simp] theorem State.setTag_ageLimits (s : State) (t : Nat) (x : Option (Nat × TrafficClass)) : (s.setTag t x).ageLimits = s.ageLimits := rfl
@[simp] theorem State.setTag_poolShare (s : State) (t : Nat) (x : Option (Nat × TrafficClass)) : (s.setTag t x).poolShare = s.poolShare := rfl
@[simp] theorem State.setTag_routes (s : State) (t : Nat) (x : Option (Nat × TrafficClass)) : (s.setTag t x).routes = s.routes := rfl
@[simp] theorem State.setTag_sessions (s : State) (t : Nat) (x : Option (Nat × TrafficClass)) : (s.setTag t x).sessions = s.sessions := rfl
@[simp] theorem State.setTag_queues (s : State) (t : Nat) (x : Option (Nat × TrafficClass)) : (s.setTag t x).queues = s.queues := rfl
@[simp] theorem State.setTag_pool (s : State) (t : Nat) (x : Option (Nat × TrafficClass)) : (s.setTag t x).pool = s.pool := rfl
@[simp] theorem State.setTag_slots (s : State) (t : Nat) (x : Option (Nat × TrafficClass)) : (s.setTag t x).slots = s.slots := rfl
@[simp] theorem State.setTag_openList (s : State) (t : Nat) (x : Option (Nat × TrafficClass)) : (s.setTag t x).openList = s.openList := rfl
@[simp] theorem State.setTag_sealList (s : State) (t : Nat) (x : Option (Nat × TrafficClass)) : (s.setTag t x).sealList = s.sealList := rfl
@[simp] theorem State.setTag_meter (s : State) (t : Nat) (x : Option (Nat × TrafficClass)) : (s.setTag t x).meter = s.meter := rfl
@[simp] theorem State.setTag_tariff (s : State) (t : Nat) (x : Option (Nat × TrafficClass)) : (s.setTag t x).tariff = s.tariff := rfl
@[simp] theorem State.setTag_accounts (s : State) (t : Nat) (x : Option (Nat × TrafficClass)) : (s.setTag t x).accounts = s.accounts := rfl
@[simp] theorem State.setTag_crq (s : State) (t : Nat) (x : Option (Nat × TrafficClass)) : (s.setTag t x).crq = s.crq := rfl
@[simp] theorem State.setTag_service (s : State) (t : Nat) (x : Option (Nat × TrafficClass)) : (s.setTag t x).service = s.service := rfl
@[simp] theorem State.setTag_clock (s : State) (t : Nat) (x : Option (Nat × TrafficClass)) : (s.setTag t x).clock = s.clock := rfl
@[simp] theorem State.setTag_ports (s : State) (t : Nat) (x : Option (Nat × TrafficClass)) : (s.setTag t x).ports = s.ports := rfl
@[simp] theorem State.setTag_counters (s : State) (t : Nat) (x : Option (Nat × TrafficClass)) : (s.setTag t x).counters = s.counters := rfl
@[simp] theorem State.setTag_raised (s : State) (t : Nat) (x : Option (Nat × TrafficClass)) : (s.setTag t x).raised = s.raised := rfl
@[simp] theorem State.setTag_pending (s : State) (t : Nat) (x : Option (Nat × TrafficClass)) : (s.setTag t x).pending = s.pending := rfl

/-! ### `State.setAccount` writes `accounts` alone -/

@[simp] theorem State.setAccount_now (s : State) (a : Nat) (x : Account) : (s.setAccount a x).now = s.now := rfl
@[simp] theorem State.setAccount_zone (s : State) (a : Nat) (x : Account) : (s.setAccount a x).zone = s.zone := rfl
@[simp] theorem State.setAccount_links (s : State) (a : Nat) (x : Account) : (s.setAccount a x).links = s.links := rfl
@[simp] theorem State.setAccount_ageLimits (s : State) (a : Nat) (x : Account) : (s.setAccount a x).ageLimits = s.ageLimits := rfl
@[simp] theorem State.setAccount_poolShare (s : State) (a : Nat) (x : Account) : (s.setAccount a x).poolShare = s.poolShare := rfl
@[simp] theorem State.setAccount_routes (s : State) (a : Nat) (x : Account) : (s.setAccount a x).routes = s.routes := rfl
@[simp] theorem State.setAccount_sessions (s : State) (a : Nat) (x : Account) : (s.setAccount a x).sessions = s.sessions := rfl
@[simp] theorem State.setAccount_bearerMap (s : State) (a : Nat) (x : Account) : (s.setAccount a x).bearerMap = s.bearerMap := rfl
@[simp] theorem State.setAccount_queues (s : State) (a : Nat) (x : Account) : (s.setAccount a x).queues = s.queues := rfl
@[simp] theorem State.setAccount_pool (s : State) (a : Nat) (x : Account) : (s.setAccount a x).pool = s.pool := rfl
@[simp] theorem State.setAccount_slots (s : State) (a : Nat) (x : Account) : (s.setAccount a x).slots = s.slots := rfl
@[simp] theorem State.setAccount_openList (s : State) (a : Nat) (x : Account) : (s.setAccount a x).openList = s.openList := rfl
@[simp] theorem State.setAccount_sealList (s : State) (a : Nat) (x : Account) : (s.setAccount a x).sealList = s.sealList := rfl
@[simp] theorem State.setAccount_meter (s : State) (a : Nat) (x : Account) : (s.setAccount a x).meter = s.meter := rfl
@[simp] theorem State.setAccount_tariff (s : State) (a : Nat) (x : Account) : (s.setAccount a x).tariff = s.tariff := rfl
@[simp] theorem State.setAccount_crq (s : State) (a : Nat) (x : Account) : (s.setAccount a x).crq = s.crq := rfl
@[simp] theorem State.setAccount_service (s : State) (a : Nat) (x : Account) : (s.setAccount a x).service = s.service := rfl
@[simp] theorem State.setAccount_clock (s : State) (a : Nat) (x : Account) : (s.setAccount a x).clock = s.clock := rfl
@[simp] theorem State.setAccount_ports (s : State) (a : Nat) (x : Account) : (s.setAccount a x).ports = s.ports := rfl
@[simp] theorem State.setAccount_counters (s : State) (a : Nat) (x : Account) : (s.setAccount a x).counters = s.counters := rfl
@[simp] theorem State.setAccount_raised (s : State) (a : Nat) (x : Account) : (s.setAccount a x).raised = s.raised := rfl
@[simp] theorem State.setAccount_pending (s : State) (a : Nat) (x : Account) : (s.setAccount a x).pending = s.pending := rfl

/-! ### `State.setSlot` writes `slots` alone -/

@[simp] theorem State.setSlot_now (s : State) (i : Nat) (x : Option Slot) : (s.setSlot i x).now = s.now := rfl
@[simp] theorem State.setSlot_zone (s : State) (i : Nat) (x : Option Slot) : (s.setSlot i x).zone = s.zone := rfl
@[simp] theorem State.setSlot_links (s : State) (i : Nat) (x : Option Slot) : (s.setSlot i x).links = s.links := rfl
@[simp] theorem State.setSlot_ageLimits (s : State) (i : Nat) (x : Option Slot) : (s.setSlot i x).ageLimits = s.ageLimits := rfl
@[simp] theorem State.setSlot_poolShare (s : State) (i : Nat) (x : Option Slot) : (s.setSlot i x).poolShare = s.poolShare := rfl
@[simp] theorem State.setSlot_routes (s : State) (i : Nat) (x : Option Slot) : (s.setSlot i x).routes = s.routes := rfl
@[simp] theorem State.setSlot_sessions (s : State) (i : Nat) (x : Option Slot) : (s.setSlot i x).sessions = s.sessions := rfl
@[simp] theorem State.setSlot_bearerMap (s : State) (i : Nat) (x : Option Slot) : (s.setSlot i x).bearerMap = s.bearerMap := rfl
@[simp] theorem State.setSlot_queues (s : State) (i : Nat) (x : Option Slot) : (s.setSlot i x).queues = s.queues := rfl
@[simp] theorem State.setSlot_pool (s : State) (i : Nat) (x : Option Slot) : (s.setSlot i x).pool = s.pool := rfl
@[simp] theorem State.setSlot_openList (s : State) (i : Nat) (x : Option Slot) : (s.setSlot i x).openList = s.openList := rfl
@[simp] theorem State.setSlot_sealList (s : State) (i : Nat) (x : Option Slot) : (s.setSlot i x).sealList = s.sealList := rfl
@[simp] theorem State.setSlot_meter (s : State) (i : Nat) (x : Option Slot) : (s.setSlot i x).meter = s.meter := rfl
@[simp] theorem State.setSlot_tariff (s : State) (i : Nat) (x : Option Slot) : (s.setSlot i x).tariff = s.tariff := rfl
@[simp] theorem State.setSlot_accounts (s : State) (i : Nat) (x : Option Slot) : (s.setSlot i x).accounts = s.accounts := rfl
@[simp] theorem State.setSlot_crq (s : State) (i : Nat) (x : Option Slot) : (s.setSlot i x).crq = s.crq := rfl
@[simp] theorem State.setSlot_service (s : State) (i : Nat) (x : Option Slot) : (s.setSlot i x).service = s.service := rfl
@[simp] theorem State.setSlot_clock (s : State) (i : Nat) (x : Option Slot) : (s.setSlot i x).clock = s.clock := rfl
@[simp] theorem State.setSlot_ports (s : State) (i : Nat) (x : Option Slot) : (s.setSlot i x).ports = s.ports := rfl
@[simp] theorem State.setSlot_counters (s : State) (i : Nat) (x : Option Slot) : (s.setSlot i x).counters = s.counters := rfl
@[simp] theorem State.setSlot_raised (s : State) (i : Nat) (x : Option Slot) : (s.setSlot i x).raised = s.raised := rfl
@[simp] theorem State.setSlot_pending (s : State) (i : Nat) (x : Option Slot) : (s.setSlot i x).pending = s.pending := rfl

/-! ### `State.count` writes `counters` alone -/

@[simp] theorem State.count_now (s : State) (c : Counter) (n : Nat) : (s.count c n).now = s.now := rfl
@[simp] theorem State.count_zone (s : State) (c : Counter) (n : Nat) : (s.count c n).zone = s.zone := rfl
@[simp] theorem State.count_links (s : State) (c : Counter) (n : Nat) : (s.count c n).links = s.links := rfl
@[simp] theorem State.count_ageLimits (s : State) (c : Counter) (n : Nat) : (s.count c n).ageLimits = s.ageLimits := rfl
@[simp] theorem State.count_poolShare (s : State) (c : Counter) (n : Nat) : (s.count c n).poolShare = s.poolShare := rfl
@[simp] theorem State.count_routes (s : State) (c : Counter) (n : Nat) : (s.count c n).routes = s.routes := rfl
@[simp] theorem State.count_sessions (s : State) (c : Counter) (n : Nat) : (s.count c n).sessions = s.sessions := rfl
@[simp] theorem State.count_bearerMap (s : State) (c : Counter) (n : Nat) : (s.count c n).bearerMap = s.bearerMap := rfl
@[simp] theorem State.count_queues (s : State) (c : Counter) (n : Nat) : (s.count c n).queues = s.queues := rfl
@[simp] theorem State.count_pool (s : State) (c : Counter) (n : Nat) : (s.count c n).pool = s.pool := rfl
@[simp] theorem State.count_slots (s : State) (c : Counter) (n : Nat) : (s.count c n).slots = s.slots := rfl
@[simp] theorem State.count_openList (s : State) (c : Counter) (n : Nat) : (s.count c n).openList = s.openList := rfl
@[simp] theorem State.count_sealList (s : State) (c : Counter) (n : Nat) : (s.count c n).sealList = s.sealList := rfl
@[simp] theorem State.count_meter (s : State) (c : Counter) (n : Nat) : (s.count c n).meter = s.meter := rfl
@[simp] theorem State.count_tariff (s : State) (c : Counter) (n : Nat) : (s.count c n).tariff = s.tariff := rfl
@[simp] theorem State.count_accounts (s : State) (c : Counter) (n : Nat) : (s.count c n).accounts = s.accounts := rfl
@[simp] theorem State.count_crq (s : State) (c : Counter) (n : Nat) : (s.count c n).crq = s.crq := rfl
@[simp] theorem State.count_service (s : State) (c : Counter) (n : Nat) : (s.count c n).service = s.service := rfl
@[simp] theorem State.count_clock (s : State) (c : Counter) (n : Nat) : (s.count c n).clock = s.clock := rfl
@[simp] theorem State.count_ports (s : State) (c : Counter) (n : Nat) : (s.count c n).ports = s.ports := rfl
@[simp] theorem State.count_raised (s : State) (c : Counter) (n : Nat) : (s.count c n).raised = s.raised := rfl
@[simp] theorem State.count_pending (s : State) (c : Counter) (n : Nat) : (s.count c n).pending = s.pending := rfl

/-! ### `State.raise` writes `raised` alone -/

@[simp] theorem State.raise_now (s : State) (p : Port) (k : NoticeKind) (n : Nat) : (s.raise p k n).now = s.now := rfl
@[simp] theorem State.raise_zone (s : State) (p : Port) (k : NoticeKind) (n : Nat) : (s.raise p k n).zone = s.zone := rfl
@[simp] theorem State.raise_links (s : State) (p : Port) (k : NoticeKind) (n : Nat) : (s.raise p k n).links = s.links := rfl
@[simp] theorem State.raise_ageLimits (s : State) (p : Port) (k : NoticeKind) (n : Nat) : (s.raise p k n).ageLimits = s.ageLimits := rfl
@[simp] theorem State.raise_poolShare (s : State) (p : Port) (k : NoticeKind) (n : Nat) : (s.raise p k n).poolShare = s.poolShare := rfl
@[simp] theorem State.raise_routes (s : State) (p : Port) (k : NoticeKind) (n : Nat) : (s.raise p k n).routes = s.routes := rfl
@[simp] theorem State.raise_sessions (s : State) (p : Port) (k : NoticeKind) (n : Nat) : (s.raise p k n).sessions = s.sessions := rfl
@[simp] theorem State.raise_bearerMap (s : State) (p : Port) (k : NoticeKind) (n : Nat) : (s.raise p k n).bearerMap = s.bearerMap := rfl
@[simp] theorem State.raise_queues (s : State) (p : Port) (k : NoticeKind) (n : Nat) : (s.raise p k n).queues = s.queues := rfl
@[simp] theorem State.raise_pool (s : State) (p : Port) (k : NoticeKind) (n : Nat) : (s.raise p k n).pool = s.pool := rfl
@[simp] theorem State.raise_slots (s : State) (p : Port) (k : NoticeKind) (n : Nat) : (s.raise p k n).slots = s.slots := rfl
@[simp] theorem State.raise_openList (s : State) (p : Port) (k : NoticeKind) (n : Nat) : (s.raise p k n).openList = s.openList := rfl
@[simp] theorem State.raise_sealList (s : State) (p : Port) (k : NoticeKind) (n : Nat) : (s.raise p k n).sealList = s.sealList := rfl
@[simp] theorem State.raise_meter (s : State) (p : Port) (k : NoticeKind) (n : Nat) : (s.raise p k n).meter = s.meter := rfl
@[simp] theorem State.raise_tariff (s : State) (p : Port) (k : NoticeKind) (n : Nat) : (s.raise p k n).tariff = s.tariff := rfl
@[simp] theorem State.raise_accounts (s : State) (p : Port) (k : NoticeKind) (n : Nat) : (s.raise p k n).accounts = s.accounts := rfl
@[simp] theorem State.raise_crq (s : State) (p : Port) (k : NoticeKind) (n : Nat) : (s.raise p k n).crq = s.crq := rfl
@[simp] theorem State.raise_service (s : State) (p : Port) (k : NoticeKind) (n : Nat) : (s.raise p k n).service = s.service := rfl
@[simp] theorem State.raise_clock (s : State) (p : Port) (k : NoticeKind) (n : Nat) : (s.raise p k n).clock = s.clock := rfl
@[simp] theorem State.raise_ports (s : State) (p : Port) (k : NoticeKind) (n : Nat) : (s.raise p k n).ports = s.ports := rfl
@[simp] theorem State.raise_counters (s : State) (p : Port) (k : NoticeKind) (n : Nat) : (s.raise p k n).counters = s.counters := rfl
@[simp] theorem State.raise_pending (s : State) (p : Port) (k : NoticeKind) (n : Nat) : (s.raise p k n).pending = s.pending := rfl

/-! ### Reading back -/

theorem get_set_self {α : Type} {n : Nat} (v : Vector α n) (i : Fin n) (x : α) :
    (v.set i.val x i.isLt).get i = x := by
  show (v.set i.val x i.isLt)[i.val] = x
  exact Vector.getElem_set_self _

theorem get_set_ne {α : Type} {n : Nat} (v : Vector α n) {j i : Fin n} (h : j ≠ i) (x : α) :
    (v.set i.val x i.isLt).get j = v.get j := by
  show (v.set i.val x i.isLt)[j.val] = v[j.val]
  exact Vector.getElem_set_ne i.isLt j.isLt (fun e => h (Fin.ext e.symm))

@[simp] theorem State.link_setLink_self (s : State) (k : LinkId) (x : Link) : (s.setLink k x).link k = x :=
  get_set_self ..

theorem State.link_setLink_ne (s : State) {j k : LinkId} (h : j ≠ k) (x : Link) : (s.setLink k x).link j = s.link j :=
  get_set_ne _ h x

@[simp] theorem State.route_setRoute_self (s : State) (r : RouteId) (x : Route) : (s.setRoute r x).route r = x :=
  get_set_self ..

theorem State.route_setRoute_ne (s : State) {q r : RouteId} (h : q ≠ r) (x : Route) :
    (s.setRoute r x).route q = s.route q :=
  get_set_ne _ h x

@[simp] theorem State.linkQueues_setLinkQueues_self (s : State) (k : LinkId) (x : LinkQueues) :
    (s.setLinkQueues k x).linkQueues k = x :=
  get_set_self ..

theorem State.linkQueues_setLinkQueues_ne (s : State) {j k : LinkId} (h : j ≠ k) (x : LinkQueues) :
    (s.setLinkQueues k x).linkQueues j = s.linkQueues j :=
  get_set_ne _ h x

@[simp] theorem State.port_setPort_self (s : State) (p : Port) (x : PortState) : (s.setPort p x).port p = x := by
  cases p <;> rfl

theorem State.port_setPort_ne (s : State) {p q : Port} (h : q ≠ p) (x : PortState) : (s.setPort p x).port q = s.port q := by
  cases p <;> cases q <;> first | rfl | exact absurd rfl h

@[simp] theorem State.session_setSession_self (s : State) (h : Nat) (x : Option Session) :
    (s.setSession h x).session h = x := by simp [State.session, State.setSession]

theorem State.session_setSession_ne (s : State) {j h : Nat} (hj : j ≠ h) (x : Option Session) :
    (s.setSession h x).session j = s.session j := by simp [State.session, State.setSession, Table.get?_put_ne, hj]

@[simp] theorem State.tagEntry_setTag_self (s : State) (t : Nat) (x : Option (Nat × TrafficClass)) :
    (s.setTag t x).tagEntry t = x := by simp [State.tagEntry, State.setTag]

theorem State.tagEntry_setTag_ne (s : State) {u t : Nat} (h : u ≠ t) (x : Option (Nat × TrafficClass)) :
    (s.setTag t x).tagEntry u = s.tagEntry u := by simp [State.tagEntry, State.setTag, Table.get?_put_ne, h]

@[simp] theorem State.slot_setSlot_self (s : State) (i : Nat) (x : Option Slot) : (s.setSlot i x).slot i = x := by
  simp [State.slot, State.setSlot]

theorem State.slot_setSlot_ne (s : State) {j i : Nat} (h : j ≠ i) (x : Option Slot) :
    (s.setSlot i x).slot j = s.slot j := by simp [State.slot, State.setSlot, Table.get?_put_ne, h]

@[simp] theorem State.account_setAccount_self (s : State) (a : Nat) (x : Account) : (s.setAccount a x).account a = x := by
  simp only [State.account, State.setAccount, Table.get?_put_self]
  split
  · simp [*]
  · rfl

theorem State.account_setAccount_ne (s : State) {b a : Nat} (h : b ≠ a) (x : Account) :
    (s.setAccount a x).account b = s.account b := by simp [State.account, State.setAccount, Table.get?_put_ne, h]

/-- A counter kept in a table reads as it was last set. -/
theorem counterValue_setCounter (t : Table (BitVec 40)) (i n : Nat) (v : BitVec 40) :
    counterValue (setCounter t n v) i = if i = n then v else counterValue t i := by
  unfold counterValue setCounter
  rw [Table.get?_put]
  split
  · split
    · simp [*]
    · rfl
  · rfl

/-- A count raises its counter and no other (R169). -/
theorem State.counterValue_count (s : State) (c : Counter) (n i : Nat) :
    counterValue (s.count c n).counters i
      = if i = c.number then s.counter c + BitVec.ofNat 40 n else counterValue s.counters i :=
  counterValue_setCounter ..

end Sys2Proof.Machine
end

