-- ==== Sys2Proof/Laws/Frames.lean ====
section
/-! SUPPORT. All the fields that the route unit and the link manager can write, and all that the meter and the account unit
can write: one lemma for each operation. -/

namespace Sys2Proof.Machine

/-- A relation that every step of a fold keeps is kept by the fold. -/
theorem foldl_rel {α β : Type} {R : α → α → Prop} (refl : ∀ s, R s s) (trans : ∀ {s t u}, R s t → R t u → R s u)
    {f : α → β → α} (h : ∀ s x, R s (f s x)) (l : List β) (s : α) : R s (l.foldl f s) := by
  induction l generalizing s with
  | nil => exact refl s
  | cons x l ih => exact trans (h s x) (ih _)

/-! ### The route unit and the link manager -/

/-- The state with everything blanked that the route unit, the link manager and the frames they discard can write: links,
routes, the links' queues, counters and occurrences. -/
def State.offPaths (s : State) : State :=
  { s with links := State.reset.links, routes := State.reset.routes, queues := State.reset.queues,
           counters := .empty, raised := [] }

/-- Two states that agree off the paths agree in every other field. -/
theorem State.offPaths_eq {s t : State} (h : t.offPaths = s.offPaths) :
    t = { s with links := t.links, routes := t.routes, queues := t.queues, counters := t.counters,
                 raised := t.raised } := by
  have e := congrArg (fun u : State => { u with links := t.links, routes := t.routes, queues := t.queues,
                                                counters := t.counters, raised := t.raised }) h
  exact e

theorem offPaths_fold {β : Type} {f : State → β → State} (h : ∀ s x, (f s x).offPaths = s.offPaths) (l : List β)
    (s : State) : (l.foldl f s).offPaths = s.offPaths := by
  induction l generalizing s with
  | nil => rfl
  | cons x l ih => exact (ih _).trans (h s x)

@[simp] theorem offPaths_modifyLink (k : LinkId) (f : Link → Link) (s : State) :
    (s.modifyLink k f).offPaths = s.offPaths := rfl
@[simp] theorem offPaths_setRoute (r : RouteId) (x : Route) (s : State) : (s.setRoute r x).offPaths = s.offPaths := rfl
@[simp] theorem offPaths_modifyRoute (r : RouteId) (f : Route → Route) (s : State) :
    (s.modifyRoute r f).offPaths = s.offPaths := rfl
@[simp] theorem offPaths_setLinkQueues (k : LinkId) (q : LinkQueues) (s : State) :
    (s.setLinkQueues k q).offPaths = s.offPaths := rfl
@[simp] theorem offPaths_count (c : Counter) (n : Nat) (s : State) : (s.count c n).offPaths = s.offPaths := rfl
@[simp] theorem offPaths_raise (p : Port) (k : NoticeKind) (n : Nat) (s : State) :
    (s.raise p k n).offPaths = s.offPaths := rfl

@[simp] theorem offPaths_settleEvaluate (r : RouteId) (s : State) : (settleEvaluate r s).offPaths = s.offPaths := by
  unfold settleEvaluate
  dsimp only
  repeat' split
  all_goals rfl

@[simp] theorem offPaths_settleAll (s : State) : (settleAll s).offPaths = s.offPaths := by
  unfold settleAll
  split
  · rfl
  · exact offPaths_fold (fun s r => by split <;> simp) _ s

@[simp] theorem offPaths_enterStandby (k : LinkId) (s : State) : (enterStandby k s).offPaths = s.offPaths := rfl
@[simp] theorem offPaths_enterOff (k : LinkId) (s : State) : (enterOff k s).offPaths = s.offPaths := rfl

@[simp] theorem offPaths_judgeUnbound (k : LinkId) (s : State) : (judgeUnbound k s).offPaths = s.offPaths := by
  unfold judgeUnbound; split <;> simp

@[simp] theorem offPaths_judgeIdle (k : LinkId) (s : State) : (judgeIdle k s).offPaths = s.offPaths := by
  unfold judgeIdle
  repeat' split
  all_goals simp

@[simp] theorem offPaths_leaveLink (k : LinkId) (c : TrafficClass) (l : List Frame) (s : State) :
    (leaveLink k c l s).offPaths = s.offPaths := rfl
@[simp] theorem offPaths_joinLink (k : LinkId) (f : Frame) (s : State) : (joinLink k f s).offPaths = s.offPaths := rfl

@[simp] theorem offPaths_discardOnLink (k : LinkId) (gone : Frame → Bool) (n : TrafficClass → Counter) (s : State) :
    (discardOnLink k gone n s).offPaths = s.offPaths :=
  offPaths_fold (fun s c => by unfold discardClass; dsimp only; split <;> simp) _ s

@[simp] theorem offPaths_drainDiscard (r : RouteId) (d : LinkId) (s : State) :
    (drainDiscard r d s).offPaths = s.offPaths := by simp [drainDiscard]

@[simp] theorem offPaths_failureDiscard (k : LinkId) (s : State) : (failureDiscard k s).offPaths = s.offPaths := by
  simp [failureDiscard]

@[simp] theorem offPaths_uplinkLeft (k : LinkId) (route : Option RouteId) (s : State) :
    (uplinkLeft k route s).offPaths = s.offPaths := by
  unfold uplinkLeft
  dsimp only
  rw [offPaths_judgeIdle]
  repeat' split
  all_goals simp

@[simp] theorem offPaths_supersede (r : RouteId) (d : LinkId) (s : State) : (supersede r d s).offPaths = s.offPaths := by
  unfold supersede; split <;> simp

@[simp] theorem offPaths_release (r : RouteId) (k : LinkId) (s : State) : (release r k s).offPaths = s.offPaths := by
  unfold release
  split
  · rfl
  · dsimp only
    rw [offPaths_modifyRoute]
    repeat' split
    all_goals simp

@[simp] theorem offPaths_endDrainOn (r : RouteId) (k : LinkId) (s : State) :
    (endDrainOn r k s).offPaths = s.offPaths := by unfold endDrainOn; split <;> simp

@[simp] theorem offPaths_occupy (k : LinkId) (s : State) : (occupy k s).offPaths = s.offPaths := by
  unfold occupy; split <;> simp

@[simp] theorem offPaths_leaveBound (r : RouteId) (b : Option LinkId) (failed : Bool) (s : State) :
    (leaveBound r b failed s).offPaths = s.offPaths := by
  unfold leaveBound
  repeat' split
  all_goals simp

@[simp] theorem offPaths_cutover (r : RouteId) (kind : SwapKind) (t : LinkId) (s : State) :
    (cutover r kind t s).offPaths = s.offPaths := by
  unfold cutover
  dsimp only
  split <;> simp

/-- A starter of swaps writes no more than the route unit may. -/
def OnPaths (f : Starter) : Prop := ∀ r kind t s, (f r kind t s).offPaths = s.offPaths

theorem beginSwap_onPaths {g : LinkId → State → State} (hg : ∀ t s, (g t s).offPaths = s.offPaths) :
    OnPaths (beginSwap g) := by
  intro r kind t s
  unfold beginSwap
  dsimp only
  repeat' split
  all_goals simp [hg]

section Starting

variable {start : Starter} (h : OnPaths start)
include h

theorem offPaths_selectForced (r : RouteId) (e : Option LinkId) (s : State) :
    (selectForced start r e s).offPaths = s.offPaths := by
  unfold selectForced
  dsimp only
  split
  · rw [h, offPaths_modifyRoute]
  · simp

theorem offPaths_reselectWaking (r : RouteId) (e : Option LinkId) (s : State) :
    (reselectWaking start r e s).offPaths = s.offPaths := by
  unfold reselectWaking
  dsimp only
  split
  · rw [h, offPaths_modifyRoute]
  · simp

theorem offPaths_backToIdle (r : RouteId) (e : Option LinkId) (s : State) :
    (backToIdle start r e s).offPaths = s.offPaths := by
  unfold backToIdle
  dsimp only
  repeat' split
  all_goals first | simp | rw [h, offPaths_modifyRoute]

theorem offPaths_rollback (r : RouteId) (b g : LinkId) (failed : Bool) (s : State) :
    (rollback start r b g failed s).offPaths = s.offPaths := by
  unfold rollback
  dsimp only
  rw [offPaths_backToIdle h]
  simp

theorem offPaths_strike (r : RouteId) (b : LinkId) (failed : Bool) (s : State) :
    (strike start r b failed s).offPaths = s.offPaths := by
  unfold strike
  dsimp only
  repeat' split
  all_goals first
    | rw [offPaths_selectForced h]; simp
    | rw [offPaths_rollback h]
    | rw [offPaths_reselectWaking h]; simp

theorem offPaths_targetLost (r : RouteId) (t : LinkId) (s : State) :
    (targetLost start r t s).offPaths = s.offPaths := by
  unfold targetLost
  split
  · rw [offPaths_backToIdle h, offPaths_modifyRoute]
  · rw [offPaths_reselectWaking h]
  · rfl
  · rfl

theorem offPaths_answerUnfit (k : LinkId) (s : State) : (answerUnfit start k s).offPaths = s.offPaths := by
  unfold answerUnfit
  rw [offPaths_settleAll]
  refine offPaths_fold (fun s r => ?_) _ s
  repeat' split
  · exact offPaths_strike h ..
  · exact offPaths_targetLost h ..
  · rfl

end Starting

theorem startSwapRounds_onPaths : ∀ n, OnPaths (startSwapRounds n)
  | 0 => beginSwap_onPaths fun _ _ => rfl
  | n + 1 => beginSwap_onPaths fun t s => offPaths_answerUnfit (startSwapRounds_onPaths n) t s

theorem startSwap_onPaths : OnPaths startSwap := startSwapRounds_onPaths 6

@[simp] theorem offPaths_startSwap (r : RouteId) (kind : SwapKind) (t : LinkId) (s : State) :
    (startSwap r kind t s).offPaths = s.offPaths := startSwap_onPaths ..

@[simp] theorem offPaths_strikeNow (r : RouteId) (b : LinkId) (failed : Bool) (s : State) :
    (strike startSwap r b failed s).offPaths = s.offPaths := offPaths_strike startSwap_onPaths ..

@[simp] theorem offPaths_targetLostNow (r : RouteId) (t : LinkId) (s : State) :
    (targetLost startSwap r t s).offPaths = s.offPaths := offPaths_targetLost startSwap_onPaths ..

@[simp] theorem offPaths_reselectDark (r : RouteId) (s : State) : (reselectDark r s).offPaths = s.offPaths := by
  unfold reselectDark
  dsimp only
  split
  · exact offPaths_selectForced startSwap_onPaths ..
  · repeat' split
    all_goals simp
  · rfl

@[simp] theorem offPaths_reselectAllDark (s : State) : (reselectAllDark s).offPaths = s.offPaths :=
  offPaths_fold (fun _ _ => offPaths_reselectDark ..) _ s

@[simp] theorem offPaths_markReselect (r : RouteId) (t : LinkId) (s : State) :
    (markReselect r t s).offPaths = s.offPaths := by
  unfold markReselect
  repeat' split
  all_goals simp

@[simp] theorem offPaths_strikeIfBarred (allowed : State → LinkId → Bool) (r : RouteId) (s : State) :
    (strikeIfBarred allowed r s).offPaths = s.offPaths := by
  unfold strikeIfBarred
  repeat' split
  all_goals simp

@[simp] theorem offPaths_routineCause (r : RouteId) (b : LinkId) (s : State) :
    (routineCause r b s).offPaths = s.offPaths := by
  unfold routineCause
  dsimp only
  repeat' split
  all_goals simp

@[simp] theorem offPaths_answerCrossing (r : RouteId) (s : State) : (answerCrossing r s).offPaths = s.offPaths := by
  unfold answerCrossing
  repeat' split
  all_goals simp

@[simp] theorem offPaths_answerPolicy (r : RouteId) (s : State) : (answerPolicy r s).offPaths = s.offPaths := by
  unfold answerPolicy
  repeat' split
  all_goals simp

@[simp] theorem offPaths_answerFailure (k : LinkId) (r : RouteId) (s : State) :
    (answerFailure k r s).offPaths = s.offPaths := by
  unfold answerFailure
  dsimp only
  repeat' split
  all_goals simp

theorem offPaths_inServing {f : State → State} (h : ∀ s, (f s).offPaths = s.offPaths) (s : State) :
    (inServing f s).offPaths = s.offPaths := by
  unfold inServing
  split
  · exact h s
  · rfl

@[simp] theorem offPaths_toldReady (k : LinkId) (s : State) : (toldReady k s).offPaths = s.offPaths := by
  refine offPaths_inServing (fun s => ?_) s
  rw [offPaths_settleAll, offPaths_reselectAllDark]
  refine offPaths_fold (fun s r => ?_) _ s
  repeat' split
  all_goals simp

@[simp] theorem offPaths_toldFitness (k : LinkId) (s : State) : (toldFitness k s).offPaths = s.offPaths := by
  refine offPaths_inServing (fun s => ?_) s
  split
  · simp
  · exact offPaths_answerUnfit startSwap_onPaths ..

@[simp] theorem offPaths_toldOff (k : LinkId) (s : State) : (toldOff k s).offPaths = s.offPaths := by
  refine offPaths_inServing (fun s => ?_) s
  rw [offPaths_settleAll]
  exact offPaths_fold (fun s r => by split <;> simp) _ s

@[simp] theorem offPaths_toldRetired (k : LinkId) (s : State) : (toldRetired k s).offPaths = s.offPaths := by
  refine offPaths_inServing (fun s => ?_) s
  rw [offPaths_settleAll]
  exact offPaths_fold (fun s r => by split <;> simp) _ s

@[simp] theorem offPaths_toldFailed (k : LinkId) (s : State) : (toldFailed k s).offPaths = s.offPaths := by
  refine offPaths_inServing (fun s => ?_) s
  rw [offPaths_settleAll]
  exact offPaths_fold (fun _ _ => offPaths_answerFailure ..) _ s

@[simp] theorem offPaths_enterWarming (k : LinkId) (s : State) : (enterWarming k s).offPaths = s.offPaths := by
  unfold enterWarming; dsimp only; split <;> simp

@[simp] theorem offPaths_fail (k : LinkId) (s : State) : (fail k s).offPaths = s.offPaths := by simp [fail]

@[simp] theorem offPaths_switchOff (k : LinkId) (s : State) : (switchOff k s).offPaths = s.offPaths := by
  simp [switchOff]

@[simp] theorem offPaths_retire (k : LinkId) (s : State) : (retire k s).offPaths = s.offPaths := by simp [retire]

@[simp] theorem offPaths_rejudge (k : LinkId) (s : State) : (rejudge k s).offPaths = s.offPaths := by
  unfold rejudge; dsimp only; split <;> simp

@[simp] theorem offPaths_endWarmUp (k : LinkId) (s : State) : (endWarmUp k s).offPaths = s.offPaths := by
  unfold endWarmUp; split <;> simp

/-! ### The meter and the account unit -/

/-- All that the meter and the account unit can write: contexts, accounts, records, the sessions' causes and occurrences.
A session keeps everything but its causes. -/
structure MoneyFrame (s t : State) : Prop where
  same : ∃ slots openList sealList accounts crq sessions raised,
    t = { s with slots := slots, openList := openList, sealList := sealList, accounts := accounts, crq := crq,
                 sessions := sessions, raised := raised }
  session : ∀ h, t.session h = s.session h
    ∨ ∃ x causes, s.session h = some x ∧ t.session h = some { x with causes := causes }

namespace MoneyFrame

theorem refl (s : State) : MoneyFrame s s := ⟨⟨_, _, _, _, _, _, _, rfl⟩, fun _ => .inl rfl⟩

theorem trans {s t u : State} (h : MoneyFrame s t) (k : MoneyFrame t u) : MoneyFrame s u where
  same := by
    obtain ⟨_, _, _, _, _, _, _, rfl⟩ := h.same
    obtain ⟨_, _, _, _, _, _, _, rfl⟩ := k.same
    exact ⟨_, _, _, _, _, _, _, rfl⟩
  session j := by
    rcases k.session j with hk | ⟨x, c, hx, hu⟩
    · rw [hk]; exact h.session j
    · rcases h.session j with hh | ⟨y, d, hy, ht⟩
      · exact .inr ⟨x, c, hh ▸ hx, hu⟩
      · rw [ht] at hx
        obtain rfl := Option.some.inj hx
        exact .inr ⟨y, c, hy, hu⟩

theorem fold {β : Type} {f : State → β → State} (h : ∀ s x, MoneyFrame s (f s x)) (l : List β) (s : State) :
    MoneyFrame s (l.foldl f s) := foldl_rel refl trans h l s

theorem raise (p : Port) (k : NoticeKind) (n : Nat) (s : State) : MoneyFrame s (s.raise p k n) :=
  ⟨⟨_, _, _, _, _, _, _, rfl⟩, fun _ => .inl rfl⟩

theorem raiseRestricted (h : Nat) (s : State) : MoneyFrame s (s.raiseRestricted h) := by
  unfold State.raiseRestricted
  split
  · exact refl s
  · exact raise ..

theorem setAccount (a : Nat) (x : Account) (s : State) : MoneyFrame s (s.setAccount a x) :=
  ⟨⟨_, _, _, _, _, _, _, rfl⟩, fun _ => .inl rfl⟩

theorem setSlot (i : Nat) (x : Option Slot) (s : State) : MoneyFrame s (s.setSlot i x) :=
  ⟨⟨_, _, _, _, _, _, _, rfl⟩, fun _ => .inl rfl⟩

theorem withCauses {s : State} {h : Nat} {x : Session} (hx : s.session h = some x) (c : Causes) :
    MoneyFrame s (s.setSession h (some { x with causes := c })) where
  same := ⟨_, _, _, _, _, _, _, rfl⟩
  session j := by
    by_cases hj : j = h
    · subst hj; exact .inr ⟨x, c, hx, s.session_setSession_self ..⟩
    · exact .inl (s.session_setSession_ne hj _)

theorem addCause (h : Nat) (c : Cause) (s : State) : MoneyFrame s (addCause h c s) := by
  unfold Machine.addCause
  split
  · exact refl s
  · rename_i x hx
    dsimp only
    split
    · exact refl s
    · split
      · exact withCauses hx _
      · exact (withCauses hx _).trans (raiseRestricted ..)

theorem removeCause (h : Nat) (c : Cause) (s : State) : MoneyFrame s (removeCause h c s) := by
  unfold Machine.removeCause State.modifySession
  split
  · exact withCauses ‹_› _
  · exact refl s

theorem setCause (h : Nat) (c : Cause) (v : Bool) (s : State) : MoneyFrame s (setCause h c v s) := by
  unfold Machine.setCause
  split
  · exact addCause ..
  · exact removeCause ..

theorem handFunds (a : Nat) (f : Bool) (s : State) : MoneyFrame s (handFunds a f s) := by
  refine fold (fun s h => ?_) _ s
  split
  · split
    · exact setCause ..
    · exact refl s
  · exact refl s

theorem evaluateRoaming (h : Nat) (s : State) : MoneyFrame s (evaluateRoaming h s) := by
  unfold Machine.evaluateRoaming
  split
  · exact setCause ..
  · exact refl s

theorem evaluateAllRoaming (s : State) : MoneyFrame s (evaluateAllRoaming s) := fold (fun s h => evaluateRoaming h s) _ s

theorem judgeFlags (notices : Bool) (a : Nat) (s : State) : MoneyFrame s (judgeFlags notices a s) := by
  have step {b : Prop} [Decidable b] {s u : State} (h : MoneyFrame s u) : MoneyFrame s (if b then u else s) := by
    split
    · exact h
    · exact refl s
  have step' {b : Prop} [Decidable b] {s u : State} (h : MoneyFrame s u) : MoneyFrame s (if b then s else u) := by
    split
    · exact refl s
    · exact h
  exact (((setAccount a _ s).trans (step' (handFunds ..))).trans (step (raise ..))).trans (step (raise ..))

theorem applyCharge (a c : Nat) (s : State) : MoneyFrame s (applyCharge a c s) := by
  unfold Machine.applyCharge
  split
  · exact refl s
  · exact (setAccount a _ s).trans (judgeFlags ..)

theorem unrecordedUse (a : Nat) (d : Direction) (n c : Nat) (s : State) : MoneyFrame s (unrecordedUse a d n c s) :=
  ((applyCharge a c s).trans (setAccount ..)).trans (raise ..)

theorem handOver (i : Nat) (x : Context) (why : CloseReason) (r : ChargeRecord) (s : State) :
    MoneyFrame s (handOver i x why r s) := by
  unfold Machine.handOver
  split <;> exact ⟨⟨_, _, _, _, _, _, _, rfl⟩, fun _ => .inl rfl⟩

theorem closeContext (why : CloseReason) (i : Nat) (s : State) : MoneyFrame s (closeContext why i s) := by
  unfold Machine.closeContext
  split
  · exact refl s
  · rename_i x _ _
    have h := applyCharge x.account x.roundingUnit s
    have h' : MoneyFrame (Machine.applyCharge x.account x.roundingUnit s)
        { Machine.applyCharge x.account x.roundingUnit s with
          openList := (Machine.applyCharge x.account x.roundingUnit s).openList.filter (decide <| · ≠ i) } :=
      ⟨⟨_, _, _, _, _, _, _, rfl⟩, fun _ => .inl rfl⟩
    exact (h.trans h').trans (handOver ..)

theorem closeAll (l : List (Nat × CloseReason)) (s : State) : MoneyFrame s (closeAll l s) := by
  induction l generalizing s with
  | nil => exact refl s
  | cons e l ih => exact (closeContext e.2 e.1 s).trans (ih _)

theorem closeSessionContexts (h : Nat) (why : CloseReason) (s : State) :
    MoneyFrame s (closeSessionContexts h why s) := by
  refine fold (fun s c => ?_) _ s
  split
  · exact closeContext ..
  · exact refl s

theorem openSlot (i h : Nat) (x : Session) (c : TrafficClass) (s : State) : MoneyFrame s (openSlot i h x c s) :=
  ⟨⟨_, _, _, _, _, _, _, rfl⟩, fun _ => .inl rfl⟩

theorem rateInSlot (i : Nat) (d : Direction) (n : Nat) (s : State) : MoneyFrame s (rateInSlot i d n s) := by
  unfold Machine.rateInSlot
  split
  · exact refl s
  · dsimp only
    split
    · exact ((setSlot ..).trans (applyCharge ..)).trans (closeContext ..)
    · exact (setSlot ..).trans (applyCharge ..)

theorem openAndRate (h : Nat) (x : Session) (c : TrafficClass) (d : Direction) (n : Nat) (s : State) :
    MoneyFrame s (openAndRate h x c d n s) := by
  unfold Machine.openAndRate
  split
  · exact (openSlot ..).trans (rateInSlot ..)
  · exact unrecordedUse ..

theorem meterFrame (h : Nat) (c : TrafficClass) (d : Direction) (n : Nat) (s : State) :
    MoneyFrame s (meterFrame h c d n s) := by
  unfold Machine.meterFrame
  split
  · exact refl s
  · split
    · exact rateInSlot ..
    · split
      · exact (closeContext ..).trans (openAndRate ..)
      · exact openAndRate ..

theorem admitOne (s : State) : MoneyFrame s (admitOne s) := by
  unfold Machine.admitOne
  repeat' split
  all_goals exact ⟨⟨_, _, _, _, _, _, _, rfl⟩, fun _ => .inl rfl⟩

theorem admitRecords : ∀ (n : Nat) (s : State), MoneyFrame s (admitRecords n s)
  | 0, s => refl s
  | n + 1, s => (admitOne s).trans (admitRecords n _)

end MoneyFrame

end Sys2Proof.Machine
end

