-- ==== Sys2Proof/Laws/Operands.lean ====
section
/-! SUPPORT. What the readers of a request's fields do with bytes that are written out (R160). -/

namespace Sys2Proof.Machine

/-- A field of as many bytes as are in front is those bytes' number, and the rest is left. -/
theorem readField_append {n : Nat} {a b : List Byte} (h : a.length = n) : readField n (a ++ b) = some (beNumber a, b) := by
  subst h
  simp [readField]

/-- A field is read wherever enough bytes are left, and only there. -/
theorem readField_isSome (n : Nat) (b : List Byte) : (readField n b).isSome = true ↔ n ≤ b.length := by
  unfold readField
  split <;> simp <;> omega

/-- A number's bytes are as many as its field has. -/
@[simp] theorem length_beBytes (n v : Nat) : (beBytes n v).length = n := by
  induction n with
  | zero => rfl
  | succ n ih => simp [beBytes, ih]

/-- The same item written over and over is read as often. -/
theorem readTimes_replicate {α : Type} {item : Reader α} {w : List Byte} {e : α}
    (h : ∀ rest, item (w ++ rest) = some (e, rest)) :
    ∀ (n : Nat) (rest : List Byte), readTimes item n ((List.replicate n w).flatten ++ rest) = some (List.replicate n e, rest)
  | 0, rest => rfl
  | n + 1, rest => by
    simp [List.replicate_succ, readTimes, h, readTimes_replicate h n rest]

/-- Items read in two parts are read in one. -/
theorem readTimes_add {α : Type} {item : Reader α} {m : Nat} {c rest : List Byte} {r : List α}
    (k : readTimes item m c = some (r, rest)) :
    ∀ (n : Nat) (b : List Byte) (l : List α), readTimes item n b = some (l, c) →
      readTimes item (n + m) b = some (l ++ r, rest)
  | 0, b, l, h => by
    simp only [readTimes, Option.some.injEq, Prod.mk.injEq] at h
    obtain ⟨rfl, rfl⟩ := h
    rw [Nat.zero_add, k]; rfl
  | n + 1, b, l, h => by
    rw [Nat.add_right_comm]
    unfold readTimes at h ⊢
    split at h
    · cases h
    · split at h
      · rename_i xs more f
        simp only [Option.some.injEq, Prod.mk.injEq] at h
        obtain ⟨rfl, rfl⟩ := h
        simp [readTimes_add k n _ xs f]
      · cases h

end Sys2Proof.Machine
end

