-- ==== Sys2Proof/Laws/Ports.lean ====
section
/-! SUPPORT. All that the arbiters can do, and all that taking a request does to the ports. -/

namespace Sys2Proof.Machine

theorem OnlyNotices.append {a b : List Message} (ha : OnlyNotices a) (hb : OnlyNotices b) : OnlyNotices (a ++ b) :=
  fun m hm => (List.mem_append.1 hm).elim (ha m) (hb m)

theorem PortKept.refl (x : PortState) : PortKept x x :=
  ⟨rfl, rfl, [], (List.append_nil _).symm, fun _ h => nomatch h⟩

theorem PortKept.trans {x y z : PortState} (h : PortKept x y) (k : PortKept y z) : PortKept x z := by
  obtain ⟨hs, hi, a, ho, hn⟩ := h
  obtain ⟨ks, ki, b, ko, kn⟩ := k
  exact ⟨ks.trans hs, ki.trans hi, a ++ b, by rw [ko, ho, List.append_assoc], hn.append kn⟩

/-- All that runs of the arbiters can do: ports alone change, a port's outbound queue gains notices at its tail, and slots
cease to be pending. -/
structure ArbiterRan (s t : State) : Prop where
  same : SameButPorts s t
  kept : ∀ p, PortKept (s.port p) (t.port p)
  quiet : Quiet s t

theorem ArbiterRan.refl (s : State) : ArbiterRan s s := ⟨rfl, fun _ => .refl _, fun _ _ h _ => h⟩

theorem ArbiterRan.trans {s t u : State} (h : ArbiterRan s t) (k : ArbiterRan t u) : ArbiterRan s u where
  same := by
    have := k.same
    unfold SameButPorts at *
    rw [← h.same, ← this]
  kept p := (h.kept p).trans (k.kept p)
  quiet p sl hsl hp := h.quiet p sl (k.quiet p sl hsl hp) hp

/-- A port is written: every other port reads as before. -/
theorem State.port_modifyPort (s : State) (p q : Port) (f : PortState → PortState) :
    (s.modifyPort p f).port q = if q = p then f (s.port p) else s.port q := by
  split
  · subst q; exact s.port_setPort_self p _
  · exact s.port_setPort_ne ‹_› _

/-- The state with one port written in a way the arbiter may write it. -/
theorem ArbiterRan.of_port {s : State} {p : Port} {y : PortState} (hk : PortKept (s.port p) y)
    (hq : ∀ sl ∈ y.slots, sl.pending.isSome = true → sl ∈ (s.port p).slots) : ArbiterRan s (s.setPort p y) where
  same := rfl
  kept q := by
    by_cases h : q = p
    · subst h; rw [s.port_setPort_self]; exact hk
    · rw [s.port_setPort_ne h]; exact .refl _
  quiet q sl hsl hp := by
    by_cases h : q = p
    · subst h; rw [s.port_setPort_self] at hsl; exact hq sl hsl hp
    · rwa [s.port_setPort_ne h] at hsl

theorem chooseNotice_ran (p : Port) (s : State) : ArbiterRan s (chooseNotice p s) := by
  have setPort_setPort : ∀ (x y : PortState), (s.setPort p x).setPort p y = s.setPort p y := by
    intro x y; cases p <;> rfl
  unfold chooseNotice
  dsimp only
  split
  · split
    · rename_i sl _
      split
      · rename_i g _
        have hm : OnlyNotices [noticeMessage p sl g s] := by
          intro m hm
          rw [List.mem_singleton.1 hm]
          rfl
        have hslots : ((s.port p).slots.map fun x => if x.kind = sl.kind then { x with pending := none } else x).map
            (fun x : NoticeSlot => (x.kind, x.level)) = (s.port p).slots.map fun x => (x.kind, x.level) := by
          rw [List.map_map]
          refine List.map_congr_left fun x _ => ?_
          simp only [Function.comp]
          split <;> rfl
        have hquiet : ∀ x ∈ (s.port p).slots.map fun x => if x.kind = sl.kind then { x with pending := none } else x,
            x.pending.isSome = true → x ∈ (s.port p).slots := by
          intro x hx hp
          obtain ⟨y, hy, rfl⟩ := List.mem_map.1 hx
          split at hp
          · simp at hp
          · rename_i hne; rwa [if_neg hne]
        split
        · simp only [withdraw, modifySlot, appendOut, State.modifyPort, State.port_setPort_self, setPort_setPort]
          exact .of_port ⟨by simp only [PortState.settings, hslots], rfl, _, rfl, hm⟩ hquiet
        · simp only [withdraw, modifySlot, appendOut, State.modifyPort, State.port_setPort_self, setPort_setPort]
          exact .of_port ⟨by simp only [PortState.settings, hslots], rfl, _, rfl, hm⟩ hquiet
      · exact .refl s
    · exact .refl s
  · exact .refl s

theorem arbitrate_ran (n : Nat) (p : Port) : ∀ s : State, ArbiterRan s (arbitrate n p s) := by
  induction n with
  | zero => exact fun s => .refl s
  | succ n ih =>
    intro s
    unfold arbitrate
    split
    · exact .refl s
    · exact (chooseNotice_ran p s).trans (ih _)

theorem runArbiter_ran (p : Port) (s : State) : ArbiterRan s (runArbiter p s) := arbitrate_ran _ p s

theorem runArbiters_ran (s : State) : ArbiterRan s (runArbiters s) :=
  ((runArbiter_ran .rp s).trans (runArbiter_ran .lp _)).trans (runArbiter_ran .pp _)

/-! ### Taking a request -/

/-- A request that is presented is concluded with what the owning block makes of its fields (R149). -/
theorem takeRequest_presented {α : Type} {q : Request} {p : Port} {m : Message} {s : State} (h : Presented q p m s)
    (read : List Byte → Option α) (answer : α → State → Answer) :
    takeRequest q p read answer s
      = .next (conclude p m (dropHead p s)
          (match read m.body with
           | none => .refuse .invalid []
           | some f => answer f (dropHead p s))) := by
  obtain ⟨hm, hp, hb⟩ := h
  simp only [takeRequest, hm, answerRequest, hp, if_neg (Nat.not_lt.2 hb)]
  rfl

theorem dropHead_same (p : Port) (s : State) : SameButPorts s (dropHead p s) := rfl

theorem State.statusByte_congr {s t : State} (h : t.service = s.service) (hc : t.clock = s.clock) :
    t.statusByte = s.statusByte := by simp only [State.statusByte, h, hc]

/-- A response appended behind a dropped head, and then the arbiters: the request is answered. -/
theorem answered_of_ran {p : Port} {m : Message} {code : ResponseCode} {body : List Byte} {s u t : State}
    (hp : (u.port p).settings = (s.port p).settings ∧ (u.port p).inbound = (s.port p).inbound.tail
      ∧ (u.port p).outbound = (s.port p).outbound)
    (hq : ∀ q, q ≠ p → PortKept (s.port q) (u.port q))
    (ht : ArbiterRan (respond p m code body u) t) : Answered p m code body s t := by
  have hport : (respond p m code body u).port p
      = { u.port p with outbound := (u.port p).outbound ++ [responseTo p m code body u] } := by
    simp [respond, appendOut, State.modifyPort]
  have hst : t.statusByte = u.statusByte := by
    have h := ht.same
    unfold SameButPorts at h
    have hs := congrArg State.service h
    have hc := congrArg State.clock h
    exact State.statusByte_congr hs hc
  have hr : responseTo p m code body t = responseTo p m code body u := by simp only [responseTo, hst]
  obtain ⟨hs, hi, sent, ho, hn⟩ := ht.kept p
  rw [hport] at hs hi ho
  refine ⟨⟨hi.trans hp.2.1, sent, ?_, hn⟩, hs.trans hp.1, fun q hne => ?_⟩
  · rw [ho, hp.2.2, hr]; simp
  · have hqk := ht.kept q
    have : (respond p m code body u).port q = u.port q := by
      simp [respond, appendOut, State.modifyPort, State.port_setPort_ne, hne]
    rw [this] at hqk
    exact (hq q hne).trans hqk

theorem dropHead_port (p : Port) (s : State) :
    ((dropHead p s).port p).settings = (s.port p).settings ∧ ((dropHead p s).port p).inbound = (s.port p).inbound.tail
      ∧ ((dropHead p s).port p).outbound = (s.port p).outbound := by
  simp [dropHead, State.modifyPort, PortState.settings]

theorem dropHead_port_ne {p q : Port} (h : q ≠ p) (s : State) : (dropHead p s).port q = s.port q := by
  simp [dropHead, State.modifyPort, State.port_setPort_ne, h]

/-- A response appended on a port leaves every slot as it is. -/
theorem respond_slots (p q : Port) (m : Message) (code : ResponseCode) (body : List Byte) (s : State) :
    ((respond p m code body s).port q).slots = (s.port q).slots := by
  unfold respond appendOut
  rw [State.port_modifyPort]
  split
  · subst q; rfl
  · rfl

theorem dropHead_slots (p q : Port) (s : State) : ((dropHead p s).port q).slots = (s.port q).slots := by
  unfold dropHead
  rw [State.port_modifyPort]
  split
  · subst q; rfl
  · rfl

/-- A refusal or a report changes nothing but the ports, answers the request, and gathers nothing (R151). -/
theorem conclude_plain (p : Port) (m : Message) (code : ResponseCode) (body : List Byte) (s : State) :
    let t := runArbiter p (respond p m code body (dropHead p s))
    SameButPorts s t ∧ Answered p m code body s t ∧ Quiet s t := by
  have ran := runArbiter_ran p (respond p m code body (dropHead p s))
  refine ⟨?_, answered_of_ran (dropHead_port p s) (fun q h => ?_) ran, fun q sl hsl hp => ?_⟩
  · have h := ran.same
    unfold SameButPorts at *
    exact (congrArg (fun u : State => { u with ports := s.ports }) h)
  · rw [dropHead_port_ne h]; exact .refl _
  · have h := ran.quiet q sl hsl hp
    rwa [respond_slots, dropHead_slots] at h

theorem conclude_refuse (p : Port) (m : Message) (code : ResponseCode) (body : List Byte) (s : State) :
    SameButPorts s (conclude p m (dropHead p s) (.refuse code body))
      ∧ Answered p m code body s (conclude p m (dropHead p s) (.refuse code body))
      ∧ Quiet s (conclude p m (dropHead p s) (.refuse code body)) := conclude_plain p m code body s

theorem conclude_report (p : Port) (m : Message) (body : List Byte) (s : State) :
    SameButPorts s (conclude p m (dropHead p s) (.report body))
      ∧ Answered p m .ok body s (conclude p m (dropHead p s) (.report body))
      ∧ Quiet s (conclude p m (dropHead p s) (.report body)) := conclude_plain p m .ok body s

/-- Where no condition changes, following the conditions changes nothing. -/
theorem followConditions_same {before s : State} (h : ∀ k, s.holds k = before.holds k)
    (hd : ∀ r, s.dark r = before.dark r) : followConditions before s = s := by
  have hc : ∀ p k, followCondition before p k s = s := by
    intro p k
    have e := h k
    unfold followCondition
    rw [e]
    cases before.holds k <;> simp
  have hr : ∀ p, followRouteDark before p s = s := by
    intro p
    have e := h .routeDark
    unfold followRouteDark
    rw [e]
    have hf : allRoutes.filter (fun r => s.dark r && !before.dark r) = [] := by
      refine List.filter_eq_nil_iff.2 fun r _ => ?_
      rw [hd r]; simp
    rw [hf]
    cases before.holds .routeDark <;> simp
  simp only [followConditions, hc, hr]

/-- A settled answer whose change leaves the ports and the conditions alone: everything but the ports is as the answer
leaves it, the request is answered, and nothing is gathered. -/
theorem conclude_settle (p : Port) (m : Message) (body : List Byte) (s u : State) (hports : u.ports = (dropHead p s).ports)
    (hh : ∀ k, u.holds k = (dropHead p s).holds k) (hd : ∀ r, u.dark r = (dropHead p s).dark r) :
    let t := conclude p m (dropHead p s) (.settle u body)
    SameButPorts { u with ports := s.ports } t ∧ Answered p m .ok body s t ∧ Quiet s t := by
  have ran := runArbiters_ran (respond p m .ok body u)
  have hport : ∀ q, u.port q = (dropHead p s).port q := fun q => congrArg (fun x => PerPort.get x q) hports
  simp only [conclude, followConditions_same hh hd]
  refine ⟨?_, answered_of_ran ?_ (fun q h => ?_) ran, fun q sl hsl hp => ?_⟩
  · have h := ran.same
    unfold SameButPorts at *
    exact (congrArg (fun v : State => { v with ports := s.ports }) h)
  · rw [hport p]; exact dropHead_port p s
  · rw [hport q, dropHead_port_ne h]; exact .refl _
  · have h := ran.quiet q sl hsl hp
    rwa [respond_slots, hport q, dropHead_slots] at h

end Sys2Proof.Machine
end

