-- ==== Sys2Proof/WellFormed.lean ====
section
/-! DEFINITION. Which commands can be spelt at the interfaces: a message's body length fits the header's two bytes, and
a bearer tag fits its two bytes. Everything else is bounded by
its type. -/

namespace Sys2Proof

/-- The body length of a message is the two-byte header field 6..7 (08 section 9.7.1). -/
def Message.wellFormed (m : Message) : Bool := m.body.length < 65536

/-- A command whose operands fit the fields they arrive in. -/
def Instr.wellFormed : Instr → Bool
  | .requestReceived _ m => m.wellFormed
  | .uplinkFrame tag _ _ => tag < 65536
  | .fullReset | .invalidRequest _ | .messageSent _ | .syncLost _ | .syncRegained _ | .attach _ | .detach _
  | .bearerAdd _ | .bearerDrop _ | .resume _ | .linkSetup _ | .linkTune _ | .linkPowerOn _ | .linkPowerOff _
  | .linkStatusUp _ | .linkStatusDown _ | .linkReport _ | .position _ | .zoneLoad _ | .swapRoute _ | .swapRouteForce _
  | .storeSetup _ | .clockSet _ | .start _ | .tariffLoad _ | .routePolicy _ | .accountOpen _ | .accountClose _
  | .accountCredit _ | .accountSet _ | .sessionBar _ | .sessionUnbar _ | .recordTake _ | .meterSetup _ | .sessionRead _
  | .accountRead _ | .routeRead _ | .linkRead _ | .zoneRead _ | .setLevel _ | .noticeSetup _ | .countersRead _
  | .portReset _ | .carrierLoss _ | .carrierRegain _ | .warmUpDeadline _ | .lingerDeadline _ | .staleExpiry
  | .drainDeadline _ | .probationDeadline _ | .settleDeadline _ | .parkDeadline _ | .intervalDeadline _
  | .pacingDeadline _ | .voyageClockTick | .downlinkFrame _ _ _ _ | .transmitOpportunity _ | .deliveryOpportunity
  | .noticeChoice _ => true

end Sys2Proof
end

