-- ==== Sys2Proof/Tests/Slice0.lean ====
section
/-! SUPPORT. Tests of the model: ill-formed commands refused, values the spec works out, and for each statement with hypotheses
concrete states and operands that meet them. -/

namespace Sys2Proof.Tests

open Sys2Proof Sys2Proof.Machine

/-! ### Small states -/

/-- A request message. -/
def ask (code : Nat) (body : List Byte) : Message :=
  { mtype := 1, code := BitVec.ofNat 8 code, tag := 7, response := 0, status := 0, port := 0, body := body }

/-- A state with one request waiting on a port. -/
def asking (p : Port) (m : Message) (s : State) : State := s.setPort p { s.port p with inbound := [m] }

def coastalLink (state : LinkState) : Link :=
  { Link.reset with kind := some .coastal, state := state, enable := true, carrier := true, warmUp := some 20, quality := 900 }

def lawfulFrame (h : Nat) (c : TrafficClass) (r : RouteId) (k : LinkId) : Frame :=
  { direction := .up, session := h, cls := c, route := some r, link := some k, length := 100, blocks := 1, arrival := 999000 }

def poolFrame : Frame :=
  { direction := .down, session := 0, cls := .c1, route := none, link := none, length := 300, blocks := 2, arrival := 999990 }

def boundRoute : Route := { Route.reset with permitted := 63, bound := some 0, lastGood := some 0 }

def firstSession : Session :=
  { phase := .active, digest := 10, group := 0, account := 0, address := 100, bearers := [⟨5, .c0⟩, ⟨6, .c1⟩],
    causes := ⟨false, false, false⟩, parkHold := 7200, attachTime := ⟨0, false⟩ }

def secondSession : Session :=
  { firstSession with phase := .parked 500, digest := 11, address := 101, bearers := [⟨7, .c2⟩] }

def openAccount : Account := { Account.reset with isOpen := true, kind := some .prepaid, balance := 1000 }

def someContext : Context :=
  { session := 0, cls := .c0, zone := 0, group := 0, account := 0, rate := 1000, openTime := ⟨0, false⟩, bytesUp := 0,
    bytesDown := 0, charge := 0, residue := 0, clipped := false }

/-- A part in service: two segments, links in six states, routes in four, an ACTIVE and a PARKED session, frames on two links
and in the pool, an OPEN context, a record; every deadline that stands has been reached. -/
def world : State :=
  { State.reset with
    now := 1000000
    service := .serving
    zone := { Zone.reset with
      table := [⟨0, 0, false, 63, [0, 1]⟩, ⟨1000, 1, true, 63, [1]⟩]
      tracker := .located ⟨0, 10, 0⟩ 500 }
    links := #v[coastalLink .active, { coastalLink .standby with lingerDeadline := some 500 },
      { coastalLink .warming with warmUpDeadline := some 500 }, { coastalLink .off with enable := false },
      coastalLink .retiring, coastalLink .failed]
    routes := #v[{ boundRoute with settle := some (1, 500) }, { boundRoute with swap := .probation .routine 500, lastGood := some 1 },
      { Route.reset with permitted := 63, swap := .waking .forced 2 }, { boundRoute with draining := some (4, 500) },
      Route.reset, Route.reset, Route.reset, Route.reset]
    sessions := ⟨[(0, firstSession), (1, secondSession)]⟩
    bearerMap := ⟨[(5, (0, .c0)), (6, (0, .c1)), (7, (1, .c2))]⟩
    queues := #v[⟨⟨[lawfulFrame 0 .c0 0 0], [], [], []⟩, .all false⟩, .reset, .reset, .reset,
      ⟨⟨[], [lawfulFrame 0 .c1 3 4], [], []⟩, .all false⟩, .reset]
    pool := ⟨[], [poolFrame], [], []⟩
    slots := ⟨[(0, .opened someContext 500)]⟩
    openList := [0]
    tariff := some (List.replicate 64 ⟨.allow, .all 1000⟩)
    accounts := ⟨[(0, openAccount), (1, { openAccount with kind := some .postpaid, balance := 0 }),
      (2, { openAccount with kind := some .crew, balance := 0 })]⟩
    crq := [unrecordedRecord 0 .clear] }

theorem world_session {h : Nat} {x : Session} (e : world.session h = some x) :
    h = 0 ∧ x = firstSession ∨ h = 1 ∧ x = secondSession := by
  simp only [State.session, Table.get?, world, Table.lookup] at e
  split at e
  · left; simp_all
  · split at e
    · right; simp_all
    · cases e

theorem world_slot {i : Nat} {v : Slot} (e : world.slot i = some v) : i = 0 ∧ v = .opened someContext 500 := by
  simp only [State.slot, Table.get?, world, Table.lookup] at e
  split at e
  · simp_all
  · cases e

theorem world_tag {g h : Nat} {c : TrafficClass} (e : world.tagEntry g = some (h, c)) :
    g = 5 ∧ h = 0 ∧ c = .c0 ∨ g = 6 ∧ h = 0 ∧ c = .c1 ∨ g = 7 ∧ h = 1 ∧ c = .c2 := by
  simp only [State.tagEntry, Table.get?, world, Table.lookup] at e
  split at e
  · simp_all
  · split at e
    · simp_all
    · split at e
      · simp_all
      · cases e

theorem world_account (a : Nat) :
    world.account a = openAccount ∧ a = 0 ∨ world.account a = { openAccount with kind := some .postpaid, balance := 0 } ∧ a = 1
      ∨ world.account a = { openAccount with kind := some .crew, balance := 0 } ∧ a = 2 ∨ world.account a = .reset ∧ 3 ≤ a := by
  by_cases h0 : a = 0
  · subst h0; exact .inl ⟨rfl, rfl⟩
  by_cases h1 : a = 1
  · subst h1; exact .inr (.inl ⟨rfl, rfl⟩)
  by_cases h2 : a = 2
  · subst h2; exact .inr (.inr (.inl ⟨rfl, rfl⟩))
  refine .inr (.inr (.inr ⟨?_, by omega⟩))
  simp [State.account, Table.get?, world, Table.lookup, h0, h1, h2]

theorem world_closings : NoneClosing world := by
  intro h x e
  obtain ⟨-, rfl⟩ | ⟨-, rfl⟩ := world_session e <;> rfl

theorem world_notices : NoticesLawful world := by
  intro p
  cases p <;> refine ⟨by decide, by decide, by decide, ?_⟩ <;>
    simp [world, State.port, PerPort.get, State.reset, PortState.reset, defaultSlots, defaultLevels]

theorem world_tables : TablesCanonical world := ⟨by decide, by decide, by decide, by decide, by decide, by decide, by decide⟩

theorem world_accounts : AccountsLawful world := by
  intro a
  obtain ⟨e, -⟩ | ⟨e, -⟩ | ⟨e, -⟩ | ⟨e, -⟩ := world_account a <;> rw [e] <;>
    simp [Account.lawful, openAccount, Account.reset, Carry.clear]

theorem world_funds : FundsFollowed world := by
  intro h x e
  obtain ⟨-, rfl⟩ | ⟨-, rfl⟩ := world_session e <;> exact ⟨rfl, rfl⟩

theorem world_identities : IdentitiesDistinct world := by
  refine ⟨fun h x e => ?_, fun h j x y e f => ?_⟩
  · obtain ⟨-, rfl⟩ | ⟨-, rfl⟩ := world_session e <;> decide
  · obtain ⟨rfl, rfl⟩ | ⟨rfl, rfl⟩ := world_session e <;> obtain ⟨rfl, rfl⟩ | ⟨rfl, rfl⟩ := world_session f <;>
      simp [firstSession, secondSession]

theorem world_bearers : BearersMapped world := by
  refine ⟨fun g h c => ⟨fun e => ?_, ?_⟩, fun h x e k => ?_⟩
  · obtain ⟨rfl, rfl, rfl⟩ | ⟨rfl, rfl, rfl⟩ | ⟨rfl, rfl, rfl⟩ := world_tag e
    · exact ⟨firstSession, rfl, by decide⟩
    · exact ⟨firstSession, rfl, by decide⟩
    · exact ⟨secondSession, rfl, by decide⟩
  · rintro ⟨x, e, m⟩
    obtain ⟨rfl, rfl⟩ | ⟨rfl, rfl⟩ := world_session e <;> simp [firstSession, secondSession] at m
    · obtain ⟨rfl, rfl⟩ | ⟨rfl, rfl⟩ := m <;> rfl
    · obtain ⟨rfl, rfl⟩ := m; rfl
  · obtain ⟨-, rfl⟩ | ⟨-, rfl⟩ := world_session e <;> simp [firstSession, secondSession, Phase.isClosing] at k

theorem world_zone : ZoneLawful world := by
  refine ⟨⟨by decide, by simp [world], by decide, by simp [world]; decide⟩, by decide, by decide, by decide, ?_, ?_, ?_⟩
  · simp [world, Tracker.fix?]
  · simp [world, Zone.reset]
  · simp [world, Zone.reset]

theorem world_links : LinksLawful world := by
  refine ⟨fun k => ?_, by decide⟩
  fin_cases k <;> simp [Link.lawful, State.link, world, coastalLink, Link.reset, PerClass.all] <;>
    exact ⟨fun c => by cases c <;> decide, fun c => by cases c <;> decide⟩

theorem world_routes : RoutesLawful world := by
  intro r
  fin_cases r <;> simp [Route.lawful, State.route, world, boundRoute, Route.reset]

theorem world_paths : PathsLawful world := by
  refine ⟨fun r k => ?_, fun r kind k => ?_, fun r k d => ?_, fun k => ?_, fun k => ?_, fun k c => ?_, fun k => ?_⟩
  · fin_cases r <;> simp [State.route, world, boundRoute, Route.reset] <;>
      (rintro rfl; exact ⟨rfl, by decide, by decide⟩)
  · fin_cases r <;> simp [State.route, world, boundRoute, Route.reset]
    · (rintro - rfl; exact ⟨by decide, by decide⟩)
  · fin_cases r <;> simp [State.route, world, boundRoute, Route.reset]
    rintro rfl -
    decide
  · fin_cases k <;> decide
  · fin_cases k <;> decide
  · intro f m
    fin_cases k <;> cases c <;> simp [State.linkQueues, world, LinkQueues.reset, PerClass.all, PerClass.get] at m <;> subst m
    · exact ⟨rfl, rfl, rfl, by decide, by decide, rfl, rfl, 0, rfl, .inl rfl⟩
    · exact ⟨rfl, rfl, rfl, by decide, by decide, rfl, rfl, 3, rfl, .inr rfl⟩
  · fin_cases k <;> decide

theorem world_contexts : ContextsListed world := by
  refine ⟨by decide, by decide, fun i => ?_, fun i => ?_, fun i j x y d e hi hj _ _ => ?_, fun i x d hi => ?_⟩
  · constructor
    · intro h
      have : i = 0 := by simpa [world] using h
      subst this; rfl
    · intro h
      cases e : world.slot i with
      | none => simp [State.openContext, e] at h
      | some v => obtain ⟨rfl, -⟩ := world_slot e; decide
  · constructor
    · intro h; cases h
    · rintro ⟨v, e, h⟩
      obtain ⟨-, rfl⟩ := world_slot e
      cases h
  · have zero : ∀ i x d, world.openContext i = some (x, d) → i = 0 := fun i x d h => by
      cases e : world.slot i with
      | none => simp [State.openContext, e] at h
      | some v => exact (world_slot e).1
    rw [zero i x d hi, zero j y e hj]
  · cases e : world.slot i with
    | none => simp [State.openContext, e] at hi
    | some v =>
      obtain ⟨-, rfl⟩ := world_slot e
      simp only [State.openContext, e, Option.some.injEq, Prod.mk.injEq] at hi
      rw [← hi.1]; rfl

theorem world_latches : LatchesLawful world := by
  intro k c
  fin_cases k <;> cases c <;> decide

theorem world_meter : MeterLawful world := by
  refine ⟨by decide, by decide, by decide, ?_, fun _ => ⟨rfl, rfl⟩, fun i v e => ?_, fun c f m => ?_, fun r m => ?_, fun a h => ?_⟩
  · intro t e
    obtain rfl : List.replicate 64 ⟨.allow, .all 1000⟩ = t := Option.some.inj e
    refine ⟨List.length_replicate .., fun e m c => ?_⟩
    rw [(List.mem_replicate.1 m).2]
    cases c <;> decide
  · obtain ⟨-, rfl⟩ := world_slot e
    exact ⟨⟨firstSession, rfl, rfl⟩, by simp [someContext]⟩
  · cases c <;> simp [world, PerClass.get] at m
    subst m
    exact ⟨by decide, rfl⟩
  · have : r = unrecordedRecord 0 .clear := by simpa [world] using m
    subst this; rfl
  · obtain ⟨e, -⟩ | ⟨e, -⟩ | ⟨e, -⟩ | ⟨e, -⟩ := world_account a <;> rw [e] at h <;>
      simp [openAccount, Account.reset, Carry.clear] at h

theorem world_books : BooksBalance world := by
  intro a h _
  have c : world.contextCharge a = 0 := by
    by_cases e : (0 : Nat) = a <;> simp [State.contextCharge, world, Slot.context, someContext, e]
  have q : world.queuedCharge a = 0 := by
    by_cases e : (0 : Nat) = a <;>
      simp [State.queuedCharge, State.recordsOf, world, unrecordedRecord, Carry.clear, e]
  obtain ⟨e, -⟩ | ⟨e, -⟩ | ⟨e, -⟩ | ⟨e, -⟩ := world_account a <;> rw [e] at h ⊢ <;>
    simp [openAccount, Account.reset, Carry.clear, c, q] at h ⊢

theorem world_conditions : ConditionsFollowed world := by
  refine ⟨rfl, fun p k m h => ?_⟩
  cases p <;> cases k <;> simp [conditionKinds] at m <;> revert h <;> decide

theorem world_waits : ClosingsWait world := fun h x e c => by rw [world_closings h x e] at c; cases c

theorem world_carries (a : Nat) : (world.account a).carry.charge = 0 := by
  obtain ⟨e, -⟩ | ⟨e, -⟩ | ⟨e, -⟩ | ⟨e, -⟩ := world_account a <;> rw [e] <;> rfl

theorem world_fills : RecordsFillTheQueue world := by
  rintro (h | ⟨a, h⟩)
  · exact absurd rfl h
  · exact absurd h (by rw [world_carries]; decide)

theorem world_calm : Calm world := ⟨rfl, world_closings⟩

theorem world_rested : Rested world := ⟨rfl, world_waits⟩

/-- The world is lawful, and so it is with one request waiting on a port. -/
theorem world_lawful : Lawful world :=
  ⟨⟨fun p => by cases p <;> decide, by decide⟩, world_notices, world_tables, world_contexts, world_links, world_routes, world_zone,
    world_accounts, world_funds, world_bearers, world_identities, (nomatch ·), world_paths, world_latches, world_conditions,
    world_meter, world_books, world_waits, world_fills⟩

theorem asking_notices (p : Port) (m : Message) (s : State) (h : NoticesLawful s) : NoticesLawful (asking p m s) := by
  intro q
  cases p <;> cases q <;> first | exact h .rp | exact h .lp | exact h .pp

theorem asking_lawful (p : Port) (m : Message) : Lawful (asking p m world) :=
  ⟨⟨fun q => by
      cases p <;> cases q <;>
        exact ⟨by simp [asking, State.setPort, State.port, PerPort.set, PerPort.get, world, State.reset, PortState.reset],
          by simp [asking, State.setPort, State.port, PerPort.set, PerPort.get, world, State.reset, PortState.reset]⟩, world_lawful.1.2⟩,
    asking_notices p m world world_notices, world_tables, world_contexts, world_links, world_routes, world_zone,
    world_accounts, world_funds, world_bearers, world_identities, (nomatch ·), world_paths, world_latches,
    ⟨rfl, fun q k mk h => by
      cases p <;> cases q <;> first | exact world_conditions.2 .rp k mk h | exact world_conditions.2 .lp k mk h | exact world_conditions.2 .pp k mk h⟩,
    world_meter, world_books, world_waits, world_fills⟩

/-! ### Every statement's hypotheses are met together, each clause's with them -/

/-- A port with so many messages in its queues. -/
def crowded (inbound outbound : Nat) (sync : Sync) : State :=
  State.reset.setPort .rp { PortState.reset .rp with
    inbound := List.replicate inbound (ask 53 [0]), outbound := List.replicate outbound (ask 0 []), sync := sync }

theorem witness_StepRunsTheFrontCommand : world.pending = [] := rfl

theorem witness_ReceivedRequestIsQueuedOrRefused :
    ((crowded 0 0 .lost).port .rp).sync = .lost
    ∧ (((crowded 15 32 .locked).port .rp).sync = .locked ∧ ((crowded 15 32 .locked).port .rp).inbound.length < 16)
    ∧ (((crowded 16 31 .locked).port .rp).sync = .locked ∧ 16 ≤ ((crowded 16 31 .locked).port .rp).inbound.length
        ∧ ((crowded 16 31 .locked).port .rp).outbound.length < 32)
    ∧ (((crowded 16 32 .locked).port .rp).sync = .locked ∧ 16 ≤ ((crowded 16 32 .locked).port .rp).inbound.length
        ∧ 32 ≤ ((crowded 16 32 .locked).port .rp).outbound.length) := by decide

theorem witness_RequestsRefusedBeforeAnyEffect :
    (asking .lp (ask 99 []) world).headRequest .lp .invalid = some (ask 99 [])
    ∧ ((asking .lp (ask 1 []) world).headRequest .lp .attach = some (ask 1 []) ∧ permitted .attach .lp = false)
    ∧ ((asking .lp (ask 53 (List.replicate 1025 0)) world).headRequest .lp .setLevel = some (ask 53 (List.replicate 1025 0))
        ∧ bodyLimit .setLevel < (ask 53 (List.replicate 1025 0)).body.length)
    ∧ ((asking .lp (ask 53 []) world).headRequest .lp .setLevel = some (ask 53 [])
        ∧ Request.reads .setLevel (ask 53 []).body = false)
    ∧ (Presented .detach .rp (ask 2 (beBytes 2 512)) (asking .rp (ask 2 (beBytes 2 512)) world)
        ∧ Request.handle .detach (ask 2 (beBytes 2 512)).body = some 512 ∧ 511 < 512)
    ∧ (Presented .detach .rp (ask 2 (beBytes 2 511)) (asking .rp (ask 2 (beBytes 2 511)) world)
        ∧ Request.handle .detach (ask 2 (beBytes 2 511)).body = some 511 ∧ world.session 511 = none)
    ∧ (Presented .sessionBar .pp (ask 38 (beBytes 2 0 ++ 1 :: beBytes 8 11))
          (asking .pp (ask 38 (beBytes 2 0 ++ 1 :: beBytes 8 11)) world)
        ∧ readBar (beBytes 2 0 ++ 1 :: beBytes 8 11) = some (0, some 11) ∧ world.session 0 = some firstSession
        ∧ (11 : BitVec 64) ≠ firstSession.digest) := by
  refine ⟨by decide, by decide, ⟨rfl, ?_⟩, by decide, by and_intros <;> decide, by and_intros <;> decide,
    by and_intros <;> decide⟩
  show 1024 < (List.replicate 1025 (0 : Byte)).length
  rw [List.length_replicate]; decide

theorem witness_EveryRequestIsAnsweredOnce :
    Request.detach ≠ .portReset
    ∧ (asking .rp (ask 2 (beBytes 2 0)) world).headRequest .rp .detach = some (ask 2 (beBytes 2 0)) := by decide

theorem witness_SentMessageLeavesTheQueue :
    (State.reset.port .rp).outbound = [] ∧ ((crowded 0 1 .locked).port .rp).outbound ≠ [] := by decide

theorem witness_PortResetClearsThePortAlone :
    (NoticesLawful world ∧ (world.port .lp).sync = .locked)
    ∧ (NoticesLawful (asking .lp (ask 56 []) world) ∧ Presented .portReset .lp (ask 56 []) (asking .lp (ask 56 []) world)
        ∧ (ask 56 []).body = [])
    ∧ ((crowded 0 0 .lost).port .rp).sync = .lost :=
  ⟨⟨world_notices, rfl⟩, ⟨asking_notices _ _ _ world_notices, by decide, rfl⟩, rfl⟩

/-! #### Sessions -/

def attachBody (digest group account address : Nat) (bearers : List (Nat × Nat)) : List Byte :=
  beBytes 8 digest ++ beBytes 1 group ++ beBytes 2 account ++ beBytes 4 address
    ++ listBytes (fun b : Nat × Nat => beBytes 2 b.1 ++ beBytes 1 b.2) bearers ++ [0]

/-- The part in the silent segment, its position stale. -/
def silentWorld : State := { world with zone := { world.zone with tracker := .stale ⟨1, 1010, 0⟩ } }

/-- The part with a tariff that lets nobody roam. -/
def closedWorld : State := { world with tariff := some (List.replicate 64 ⟨.deny, .all 0⟩) }

def crowdSession (h : Nat) : Session :=
  { firstSession with digest := BitVec.ofNat 64 (1000 + h), address := BitVec.ofNat 32 (1000 + h), bearers := [] }

/-- The part with a session under every handle. -/
def fullWorld : State :=
  { world with sessions := ⟨(List.range 512).map fun h => (h, crowdSession h)⟩, bearerMap := .empty }

theorem lookup_crowd (h : Nat) : ∀ l : List Nat, Table.lookup (l.map fun j => (j, crowdSession j)) h =
    if h ∈ l then some (crowdSession h) else none
  | [] => rfl
  | j :: rest => by
    by_cases e : h = j
    · subst e; simp [Table.lookup]
    · simp [Table.lookup, e, lookup_crowd h rest]

theorem fullWorld_session (h : Nat) : fullWorld.session h = if h < 512 then some (crowdSession h) else none := by
  have := lookup_crowd h (List.range 512)
  simpa [fullWorld, State.session, Table.get?] using this

theorem fullWorld_tables : TablesCanonical fullWorld := by
  refine ⟨(Table.wf_iff _ _).2 ⟨?_, ?_⟩, by decide, world_tables.2.2.1, world_tables.2.2.2.1, world_tables.2.2.2.2.1,
    world_tables.2.2.2.2.2.1, world_tables.2.2.2.2.2.2⟩
  · have : fullWorld.sessions.keys = List.range 512 := by simp [fullWorld, Table.keys, Function.comp_def]
    rw [this]; exact List.pairwise_lt_range
  · simp [fullWorld, Table.keys]

theorem fullWorld_identities : IdentitiesDistinct fullWorld := by
  refine ⟨fun h x e => ?_, fun h j x y e f d => ?_⟩
  · rw [fullWorld_session] at e
    split at e <;> cases e
    have zero : (0 : BitVec 32).toNat = 0 := rfl
    simp only [crowdSession, ne_eq, ← BitVec.toNat_inj, BitVec.toNat_ofNat, zero]
    omega
  · rw [fullWorld_session] at e f
    split at e <;> cases e
    split at f <;> cases f
    simp only [crowdSession, ← BitVec.toNat_inj, BitVec.toNat_ofNat] at d
    omega

theorem asking_identities {p : Port} {m : Message} {s : State} (h : IdentitiesDistinct s) : IdentitiesDistinct (asking p m s) := h

theorem asking_tables {p : Port} {m : Message} {s : State} (h : TablesCanonical s) : TablesCanonical (asking p m s) := h

theorem reset_identities : IdentitiesDistinct State.reset :=
  ⟨fun _ _ e => (nomatch e), fun _ _ _ _ e => (nomatch e)⟩

theorem reset_tables : TablesCanonical State.reset := ⟨by decide, by decide, by decide, by decide, by decide, by decide, by decide⟩

/-- An ATTACH waits in a state in which its form is right. -/
def Attaching (digest group account address : Nat) (bearers : List (Nat × Nat)) (s : State) : Prop :=
  Presented .attach .rp (ask 1 (attachBody digest group account address bearers))
      (asking .rp (ask 1 (attachBody digest group account address bearers)) s)
    ∧ readAttach (attachBody digest group account address bearers) =
      some ⟨BitVec.ofNat 64 digest, group, account, BitVec.ofNat 32 address, bearers, none⟩
    ∧ TablesCanonical s ∧ IdentitiesDistinct s

def attaching (digest group account address : Nat) (bearers : List (Nat × Nat)) : AttachFields :=
  ⟨BitVec.ofNat 64 digest, group, account, BitVec.ofNat 32 address, bearers, none⟩

theorem passes_four {digest address : Nat} {bearers : List (Nat × Nat)} {s : State} (a : s.service = .serving)
    (b : s.silent = false) (c : (attaching digest 0 0 address bearers).address ≠ 0)
    (d : 1 ≤ bearers.length ∧ bearers.length ≤ 4 ∧ ∀ b ∈ bearers, b.1 < 2048 ∧ b.2 < 4) (e : (s.account 0).isOpen = true) :
    AttachPassesFour (attaching digest 0 0 address bearers) s :=
  ⟨a, b, ⟨by simp [attaching], by simp [attaching], c, d.1, d.2.1, d.2.2⟩, e⟩

theorem witness_AttachChecksInOrder :
    (Attaching 20 0 0 200 [(9, 0)] State.reset ∧ State.reset.service = .configuring)
    ∧ (Attaching 20 0 0 200 [(9, 0)] silentWorld ∧ silentWorld.service = .serving ∧ silentWorld.silent = true)
    ∧ (Attaching 20 8 0 200 [(9, 0)] world ∧ world.silent = false ∧ ¬AttachValid (attaching 20 8 0 200 [(9, 0)]))
    ∧ (Attaching 20 7 255 200 [(9, 0)] world ∧ AttachValid (attaching 20 7 255 200 [(9, 0)])
        ∧ (world.account 255).isOpen = false)
    ∧ (Attaching 10 0 0 200 [(9, 0)] world ∧ AttachPassesFour (attaching 10 0 0 200 [(9, 0)]) world
        ∧ world.session 0 = some firstSession ∧ firstSession.digest = (attaching 10 0 0 200 [(9, 0)]).digest)
    ∧ (Attaching 20 0 0 100 [(9, 0)] world ∧ AttachPassesFour (attaching 20 0 0 100 [(9, 0)]) world
        ∧ (∀ h x, world.session h = some x → x.digest ≠ (attaching 20 0 0 100 [(9, 0)]).digest)
        ∧ world.session 0 = some firstSession ∧ firstSession.address = (attaching 20 0 0 100 [(9, 0)]).address)
    ∧ (Attaching 20 0 0 200 [(9, 0), (7, 1)] world ∧ AttachPassesFour (attaching 20 0 0 200 [(9, 0), (7, 1)]) world
        ∧ AttachIdentityFree (attaching 20 0 0 200 [(9, 0), (7, 1)]) world
        ∧ AttachTagFree (attaching 20 0 0 200 [(9, 0), (7, 1)]) world 9 ∧ world.tagEntry 7 = some (1, .c2))
    ∧ (Attaching 20 0 0 200 [(9, 0), (9, 1)] world ∧ AttachPassesFour (attaching 20 0 0 200 [(9, 0), (9, 1)]) world
        ∧ AttachIdentityFree (attaching 20 0 0 200 [(9, 0), (9, 1)]) world ∧ world.tagEntry 9 = none
        ∧ 1 < ([(9, 0), (9, 1)].map (·.1)).count 9)
    ∧ (Attaching 20 0 0 200 [(9, 0)] closedWorld ∧ AttachPassesFour (attaching 20 0 0 200 [(9, 0)]) closedWorld
        ∧ AttachIdentityFree (attaching 20 0 0 200 [(9, 0)]) closedWorld
        ∧ AttachTagFree (attaching 20 0 0 200 [(9, 0)]) closedWorld 9 ∧ (closedWorld.currentEntry 0).permission = .deny)
    ∧ (Attaching 20 0 0 200 [(9, 0)] fullWorld ∧ AttachPassesFour (attaching 20 0 0 200 [(9, 0)]) fullWorld
        ∧ AttachIdentityFree (attaching 20 0 0 200 [(9, 0)]) fullWorld
        ∧ AttachTagFree (attaching 20 0 0 200 [(9, 0)]) fullWorld 9 ∧ (fullWorld.currentEntry 0).permission ≠ .deny
        ∧ ∀ h, h < 512 → (fullWorld.session h).isSome = true) := by
  have free : ∀ h x, world.session h = some x → x.digest ≠ 20 ∧ x.address ≠ 200 := fun h x e => by
    obtain ⟨-, rfl⟩ | ⟨-, rfl⟩ := world_session e <;> decide
  refine ⟨⟨⟨by decide, by decide, reset_tables, reset_identities⟩, rfl⟩,
    ⟨⟨by decide, by decide, world_tables, world_identities⟩, rfl, rfl⟩,
    ⟨⟨by decide, by decide, world_tables, world_identities⟩, rfl, fun h => absurd h.1 (by decide)⟩,
    ⟨⟨by decide, by decide, world_tables, world_identities⟩, ⟨by decide, by decide, by decide, by decide, by decide, by decide⟩, rfl⟩,
    ⟨⟨by decide, by decide, world_tables, world_identities⟩, passes_four rfl rfl (by decide) (by decide) rfl, rfl, rfl⟩,
    ⟨⟨by decide, by decide, world_tables, world_identities⟩, passes_four rfl rfl (by decide) (by decide) rfl,
      fun h x e => (free h x e).1, rfl, rfl⟩,
    ⟨⟨by decide, by decide, world_tables, world_identities⟩, passes_four rfl rfl (by decide) (by decide) rfl, free,
      ⟨rfl, by decide⟩, rfl⟩,
    ⟨⟨by decide, by decide, world_tables, world_identities⟩, passes_four rfl rfl (by decide) (by decide) rfl, free, rfl, by decide⟩,
    ⟨⟨by decide, by decide, world_tables, world_identities⟩, passes_four rfl rfl (by decide) (by decide) rfl, free,
      ⟨rfl, by decide⟩, rfl⟩,
    ⟨⟨by decide, by decide, fullWorld_tables, fullWorld_identities⟩, passes_four rfl rfl (by decide) (by decide) rfl,
      fun h x e => ?_, ⟨rfl, by decide⟩, by decide, fun h l => ?_⟩⟩
  · rw [fullWorld_session] at e
    split at e <;> cases e
    simp only [crowdSession, attaching, ne_eq, ← BitVec.toNat_inj, BitVec.toNat_ofNat]
    omega
  · rw [fullWorld_session, if_pos l]; rfl

theorem witness_AttachOpensALowestFreeSession :
    Attaching 20 0 0 200 [(9, 0)] world ∧ AttachPassesFour (attaching 20 0 0 200 [(9, 0)]) world
      ∧ AttachIdentityFree (attaching 20 0 0 200 [(9, 0)]) world
      ∧ (∀ b ∈ [(9, 0)], AttachTagFree (attaching 20 0 0 200 [(9, 0)]) world b.1) ∧ (world.currentEntry 0).permission ≠ .deny
      ∧ world.session 2 = none ∧ ∀ j, j < 2 → (world.session j).isSome = true := by
  refine ⟨⟨by decide, by decide, world_tables, world_identities⟩, passes_four rfl rfl (by decide) (by decide) rfl, fun h x e => ?_,
    fun b m => ?_, by decide, rfl, by decide⟩
  · obtain ⟨-, rfl⟩ | ⟨-, rfl⟩ := world_session e <;> decide
  · obtain rfl : b = (9, 0) := by simpa using m
    exact ⟨rfl, by decide⟩

/-- A session that closes while a frame of it waits on a link. -/
def closingSession : Session :=
  { firstSession with phase := .closing .detach, digest := 12, address := 102, bearers := [] }

def closingWorld : State :=
  { world with
    sessions := ⟨[(0, firstSession), (1, secondSession), (2, closingSession)]⟩
    queues := world.queues.set 4 ⟨⟨[], [lawfulFrame 0 .c1 3 4, lawfulFrame 2 .c1 3 4], [], []⟩, .all false⟩ }

theorem closingWorld_rested : Rested closingWorld := by
  refine ⟨rfl, fun h x e _ => ?_⟩
  simp only [State.session, Table.get?, closingWorld, Table.lookup] at e
  split at e
  · cases e; contradiction
  · split at e
    · cases e; contradiction
    · split at e
      · subst h; exact .inl (by decide)
      · cases e

theorem closingWorld_tables : TablesCanonical closingWorld :=
  ⟨by decide, by decide, by decide, by decide, by decide, by decide, by decide⟩

theorem closingWorld_funds : FundsFollowed closingWorld := by
  intro h x e
  simp only [State.session, Table.get?, closingWorld, Table.lookup] at e
  split at e
  · cases e; decide
  · split at e
    · cases e; decide
    · split at e
      · cases e; decide
      · cases e

/-- The part with no frame on any link: a session that is detached comes to its end at once, its context OPEN. -/
def dry : State := { world with queues := State.reset.queues }

theorem witness_SessionsCloseByDetachAndExpiry :
    (Presented .detach .rp (ask 2 (beBytes 2 2)) (asking .rp (ask 2 (beBytes 2 2)) closingWorld)
        ∧ readOne 2 (beBytes 2 2) = some 2 ∧ closingWorld.session 2 = some closingSession
        ∧ TablesCanonical closingWorld ∧ Rested (asking .rp (ask 2 (beBytes 2 2)) closingWorld)
        ∧ closingSession.phase.isClosing = true)
    ∧ (Presented .detach .rp (ask 2 (beBytes 2 0)) (asking .rp (ask 2 (beBytes 2 0)) world)
        ∧ readOne 2 (beBytes 2 0) = some 0 ∧ world.session 0 = some firstSession ∧ TablesCanonical world
        ∧ Rested (asking .rp (ask 2 (beBytes 2 0)) world) ∧ firstSession.phase.isClosing = false)
    ∧ (Presented .detach .rp (ask 2 (beBytes 2 0)) (asking .rp (ask 2 (beBytes 2 0)) dry) ∧ dry.session 0 = some firstSession
        ∧ Rested (asking .rp (ask 2 (beBytes 2 0)) dry) ∧ TablesCanonical dry ∧ ContextsListed dry ∧ AccountsLawful dry
        ∧ FundsFollowed dry ∧ NoticesLawful (asking .rp (ask 2 (beBytes 2 0)) dry)
        ∧ dry.linkFrames 0 = 0 ∧ dry.sessionClosings 0 .detach = [(0, .detach)])
    ∧ (0 < world.linkFrames 0 ∧ ContextsListed world ∧ AccountsLawful world ∧ FundsFollowed world)
    ∧ (TablesCanonical world ∧ NoticesLawful world ∧ Rested world ∧ world.session 1 = some secondSession
        ∧ secondSession.phase = .parked 500 ∧ 500 ≤ world.now) :=
  ⟨⟨by decide, by decide, rfl, closingWorld_tables, closingWorld_rested, rfl⟩,
    ⟨by decide, by decide, rfl, world_tables, world_rested, rfl⟩,
    ⟨by decide, rfl, ⟨rfl, fun h x e c => by rw [world_closings h x e] at c; cases c⟩, world_tables, world_contexts, world_accounts,
      world_funds, asking_notices _ _ _ world_notices, by decide⟩,
    ⟨by decide, world_contexts, world_accounts, world_funds⟩, world_tables, world_notices, world_rested, rfl, rfl, by decide⟩

/-- The part with a session that holds four bearers. -/
def bearerWorld : State :=
  { world with sessions := world.sessions.put 0 (some { firstSession with bearers := [⟨5, .c0⟩, ⟨6, .c1⟩, ⟨1, .c2⟩, ⟨2, .c3⟩] }) }

def addBody (h tag cls : Nat) : List Byte := beBytes 2 h ++ beBytes 2 tag ++ beBytes 1 cls

/-- A BEARER_ADD, or a BEARER_DROP, waits whose form is right. -/
abbrev Adding (h tag cls : Nat) (s : State) : Prop :=
  Presented .bearerAdd .rp (ask 3 (addBody h tag cls)) (asking .rp (ask 3 (addBody h tag cls)) s)
    ∧ readBearerAdd (addBody h tag cls) = some ⟨h, tag, cls⟩ ∧ h < 512

abbrev Dropping (h tag : Nat) (s : State) : Prop :=
  Presented .bearerDrop .rp (ask 4 (beBytes 2 h ++ beBytes 2 tag)) (asking .rp (ask 4 (beBytes 2 h ++ beBytes 2 tag)) s)
    ∧ readBearerDrop (beBytes 2 h ++ beBytes 2 tag) = some (h, tag) ∧ h < 512

theorem witness_BearersAreAddedAndDropped :
    (Adding 2 9 0 closingWorld ∧ closingWorld.session 2 = some closingSession ∧ closingSession.phase.isClosing = true)
    ∧ (Adding 0 2048 0 world ∧ world.session 0 = some firstSession ∧ firstSession.phase.isClosing = false)
    ∧ Adding 0 2047 4 world
    ∧ (Adding 0 2047 3 bearerWorld ∧ 4 ≤ ((bearerWorld.session 0).map (·.bearers.length)).getD 0)
    ∧ (Adding 0 7 3 world ∧ firstSession.bearers.length < 4 ∧ world.tagEntry 7 = some (1, .c2))
    ∧ (Adding 0 2047 3 world ∧ world.tagEntry 2047 = none ∧ TrafficClass.c3.number = 3)
    ∧ (Dropping 2 9 closingWorld ∧ closingWorld.session 2 = some closingSession)
    ∧ (Dropping 0 7 world ∧ 7 ∉ firstSession.bearers.map (·.tag))
    ∧ (Dropping 1 7 world ∧ world.session 1 = some secondSession ∧ secondSession.phase.isClosing = false
        ∧ 7 ∈ secondSession.bearers.map (·.tag) ∧ secondSession.bearers.length = 1)
    ∧ (Dropping 0 5 world ∧ 5 ∈ firstSession.bearers.map (·.tag) ∧ firstSession.bearers.length ≠ 1) := by
  and_intros <;> decide

abbrev Resuming (h : Nat) (s : State) : Prop :=
  Presented .resume .rp (ask 5 (beBytes 2 h)) (asking .rp (ask 5 (beBytes 2 h)) s) ∧ readOne 2 (beBytes 2 h) = some h

theorem witness_ResumeMakesAParkedSessionActive :
    (Resuming 0 world ∧ world.session 0 = some firstSession ∧ TablesCanonical world
        ∧ NoticesLawful (asking .rp (ask 5 (beBytes 2 0)) world) ∧ Rested (asking .rp (ask 5 (beBytes 2 0)) world)
        ∧ ∀ d, firstSession.phase ≠ .parked d)
    ∧ (Resuming 1 silentWorld ∧ silentWorld.session 1 = some secondSession ∧ secondSession.phase = .parked 500
        ∧ silentWorld.silent = true)
    ∧ (Resuming 1 world ∧ world.session 1 = some secondSession ∧ world.silent = false) :=
  ⟨⟨by decide, rfl, world_tables, asking_notices _ _ _ world_notices, world_rested, fun _ e => nomatch e⟩, by decide, by decide⟩

theorem witness_BarsArePutOnAndTakenOff :
    (∀ on : Bool, Presented (if on then .sessionBar else .sessionUnbar) .pp (ask (if on then 38 else 39) (beBytes 2 0 ++ [0]))
        (asking .pp (ask (if on then 38 else 39) (beBytes 2 0 ++ [0])) world))
      ∧ readBar (beBytes 2 0 ++ [0]) = some (0, none) ∧ world.session 0 = some firstSession ∧ TablesCanonical world
      ∧ (∀ on : Bool, NoticesLawful (asking .pp (ask (if on then 38 else 39) (beBytes 2 0 ++ [0])) world))
      ∧ ∀ on : Bool, Rested (asking .pp (ask (if on then 38 else 39) (beBytes 2 0 ++ [0])) world) :=
  ⟨by decide, by decide, rfl, world_tables, fun _ => asking_notices _ _ _ world_notices, fun _ => world_rested⟩

abbrev Reading (q : Request) (code : Nat) (body : List Byte) (s : State) : Prop :=
  Presented q .lp (ask code body) (asking .lp (ask code body) s)

theorem witness_ReadsReportAndChangeNothing :
    (Reading .sessionRead 48 (0 :: beBytes 2 512) world ∧ readSessionName (0 :: beBytes 2 512) = some (.handle 512))
    ∧ (Reading .sessionRead 48 (0 :: beBytes 2 511) world ∧ readSessionName (0 :: beBytes 2 511) = some (.handle 511)
        ∧ world.session 511 = none)
    ∧ (readSessionName (0 :: beBytes 2 0) = some (.handle 0) ∧ world.session 0 = some firstSession)
    ∧ (Reading .sessionRead 48 (1 :: beBytes 8 10) world ∧ readSessionName (1 :: beBytes 8 10) = some (.digest 10)
        ∧ firstSession.digest = 10)
    ∧ (readSessionName (1 :: beBytes 8 20) = some (.digest 20) ∧ firstSession.digest ≠ 20 ∧ secondSession.digest ≠ 20)
    ∧ (Reading .accountRead 49 (beBytes 2 255) world ∧ readOne 2 (beBytes 2 255) = some 255)
    ∧ (Reading .accountRead 49 (beBytes 2 256) world ∧ readOne 2 (beBytes 2 256) = some 256)
    ∧ (Reading .routeRead 50 [7] world ∧ readOne 1 [7] = some 7) ∧ (Reading .routeRead 50 [8] world ∧ readOne 1 [8] = some 8)
    ∧ (Reading .linkRead 51 [5] world ∧ readOne 1 [5] = some 5) ∧ (Reading .linkRead 51 [6] world ∧ readOne 1 [6] = some 6)
    ∧ (Reading .zoneRead 52 [0] world ∧ readZoneRead [0] = some none)
    ∧ (Reading .zoneRead 52 [1, 1] world ∧ readZoneRead [1, 1] = some (some 1) ∧ (world.zone.table[1]?).isSome = true)
    ∧ (Reading .zoneRead 52 [1, 2] world ∧ readZoneRead [1, 2] = some (some 2) ∧ world.zone.table.length ≤ 2) := by
  and_intros <;> decide

/-! #### Links and routes -/

/-- A request of a row waits on a port, with a form that reads so. -/
abbrev Asking {α : Type} (q : Request) (p : Port) (code : Nat) (body : List Byte) (read : List Byte → Option α) (f : α)
    (s : State) : Prop :=
  Presented q p (ask code body) (asking p (ask code body) s) ∧ read body = some f

theorem reset_rested (p : Port) (m : Message) : Rested (asking p m State.reset) := ⟨rfl, fun _ _ e => (nomatch e)⟩

theorem waiting_rested (p : Port) (m : Message) : Rested (asking p m world) := world_rested

/-- With no route draining, none drains on a RETIRING link. -/
theorem keeps_of_undrained {s : State} (h : ∀ r, (s.route r).draining = none) : NoDrainRetires s := by
  intro r k d e
  rw [h r] at e
  cases e

/-- The part with no route draining on the RETIRING link; route 4 is IDLE and DARK. -/
def undrained : State := world.setRoute 3 { boundRoute with draining := none }

theorem undrained_wakes : WakesFit undrained := by unfold WakesFit; decide

theorem undrained_keeps : NoDrainRetires undrained := keeps_of_undrained (by decide)

theorem undrained_routes : RoutesLawful undrained := by
  have same : ∀ r, r ≠ 3 → undrained.route r = world.route r := by decide
  intro r
  by_cases h : r = 3
  · subst h
    exact ⟨by decide, by decide, by decide, by decide, by decide, by decide, fun _ e => (nomatch e), fun _ e => (nomatch e),
      fun _ _ e => (nomatch e), fun _ _ e => (nomatch e)⟩
  · rw [same r h]; exact world_routes r

/-- The part before its first fix, and with a run one report short of its end. -/
def unfixed : State := { world with zone := { world.zone with tracker := .unlocated } }
def nearlyAcross : State := { world with zone := { world.zone with run := some (.up, 2) } }

/-- A part about to cross from a segment that all links serve to one that some serve, its routes in the states R58 tells apart:
IDLE on links 0 and 1, in PROBATION on 0 from 1 and from nowhere, in WAKING for 2 bound to 0 and to 1, in FORCED WAKING, DARK. -/
def crossingWorld (usable : LinkMask) : State :=
  { nearlyAcross with
    zone := { nearlyAcross.zone with table := [⟨0, 0, false, 63, [0, 1]⟩, ⟨1000, 1, true, usable, [1, 2, 0]⟩] }
    routes := #v[boundRoute, { boundRoute with bound := some 1, lastGood := some 1 },
      { boundRoute with swap := .probation .routine 500, lastGood := some 1 },
      { boundRoute with swap := .probation .forced 500, lastGood := none }, { boundRoute with swap := .waking .routine 2 },
      { boundRoute with bound := some 1, lastGood := some 1, swap := .waking .routine 2 },
      { Route.reset with permitted := 63, swap := .waking .forced 2 }, { Route.reset with permitted := 63 }] }

/-- The usable mask stands in the zone table alone, so the routes and the links are those of a mask of no link. -/
theorem crossingWorld_routes (usable : LinkMask) : RoutesLawful (crossingWorld usable) ∧ WakesFit (crossingWorld usable)
    ∧ NoDrainRetires (crossingWorld usable) := by
  show RoutesLawful (crossingWorld 0) ∧ WakesFit (crossingWorld 0) ∧ NoDrainRetires (crossingWorld 0)
  refine ⟨fun r => ?_, fun k => by fin_cases k <;> decide, keeps_of_undrained fun r => by fin_cases r <;> rfl⟩
  fin_cases r <;>
    exact ⟨by decide, by decide, by decide, by decide, by decide, by decide, fun t e => by cases e <;> decide,
      fun t e => by cases e <;> rfl, fun _ _ e => by cases e <;> rfl, fun _ _ e => (nomatch e)⟩

/-- The routes of `crossingWorld`, with one link's record replaced. -/
abbrev losing (k : LinkId) (l : Link) : State := (crossingWorld 63).setLink k l

theorem losing_wakes {k : LinkId} {l : Link} (h : l.state = .off → l.qu ≤ 512) : WakesFit (losing k l) := by
  intro j o f
  by_cases e : j = k
  · subst e
    have : (losing j l).link j = l := Vector.getElem_set_self ..
    rw [this] at o ⊢
    exact h o
  · have : (losing k l).link j = (crossingWorld 63).link j :=
      Vector.getElem_set_ne k.isLt j.isLt fun c => e (Fin.ext c.symm)
    rw [this] at o f ⊢
    exact (crossingWorld_routes 63).2.1 j o f

theorem losing_wakes_twice {k : LinkId} {l m : Link} (h : m.state = .off → m.qu ≤ 512) : WakesFit ((losing k l).setLink k m) := by
  rw [show (losing k l).setLink k m = losing k m by simp [State.setLink]]
  exact losing_wakes h

theorem losing_keeps (k : LinkId) (l : Link) : NoDrainRetires (losing k l) :=
  keeps_of_undrained fun r => by fin_cases r <;> rfl

theorem losing_routes (k : LinkId) (l : Link) : RoutesLawful (losing k l) := (crossingWorld_routes 63).1

/-- The part with the RETIRING link ACTIVE, on which a route drains. -/
def drained : State := world.setLink 4 (coastalLink .active)

theorem drained_keeps : NoDrainRetires drained := by
  have : ∀ r, ∀ x ∈ (drained.route r).draining, x.1 = 4 := by decide
  intro r k d e
  obtain rfl : k = 4 := this r (k, d) e
  decide

theorem drained_paths : PathsLawful drained := by
  refine ⟨fun r k e => ?_, world_paths.2.1, world_paths.2.2.1, by decide, by decide, world_paths.2.2.2.2.2.1, by decide⟩
  obtain ⟨a, u⟩ := world_paths.1 r k e
  refine ⟨?_, u⟩
  by_cases h : k = 4
  · subst h; decide
  · rw [← a]; exact congrArg Link.state (Vector.getElem_set_ne (4 : LinkId).isLt k.isLt fun c => h (Fin.ext c.symm))

theorem drained_links : LinksLawful drained := by
  refine ⟨fun k => ?_, by decide⟩
  fin_cases k <;> simp [Link.lawful, State.link, State.setLink, drained, world, coastalLink, Link.reset, PerClass.all] <;>
    exact ⟨fun c => by cases c <;> decide, fun c => by cases c <;> decide⟩

theorem drained_latches : LatchesLawful drained := by
  intro k c
  fin_cases k <;> cases c <;> decide

theorem drained_lawful (p : Port) (m : Message) : Lawful (asking p m drained) := by
  obtain ⟨q, n, t, c, -, r, z, a, f, b, i, x, -, -, y⟩ := asking_lawful p m
  exact ⟨q, n, t, c, drained_links, r, z, a, f, b, i, x, drained_paths, drained_latches, y⟩

/-- A LINK_SETUP that carries a share and the marks of C0 and C1. -/
def setupRequest (k kind share high low : Nat) : List Byte :=
  [BitVec.ofNat 8 k, BitVec.ofNat 8 kind, 0, 0] ++ 1 :: beBytes 2 share ++ [0] ++ 1 :: (beBytes 2 high ++ beBytes 2 low) ++ [0, 0]

def setupFields (k kind share high low : Nat) : LinkSetupFields :=
  ⟨k, kind, none, none, some share, ⟨none, some (high, low), none, none⟩⟩

abbrev SettingUp (k kind share high low : Nat) (s : State) : Prop :=
  Asking .linkSetup .lp 16 (setupRequest k kind share high low) readLinkSetup (setupFields k kind share high low) s

theorem witness_LinkSetupWritesTheRecord :
    SettingUp 6 0 512 192 96 world
    ∧ (SettingUp 0 0 512 192 96 world ∧ (world.link 0).state ∈ [LinkState.warming, .standby, .active, .retiring])
    ∧ (SettingUp 3 3 512 192 96 world ∧ (world.link 3).state ∈ [LinkState.unconfigured, .off, .failed])
    ∧ (SettingUp 3 2 513 192 96 world ∧ 4096 < 513 + world.otherShares 3 + world.poolShare)
    ∧ (SettingUp 3 2 512 96 96 world ∧ 512 + world.otherShares 3 + world.poolShare ≤ 4096 ∧ LinkKind.harbour.number = 2
        ∧ ¬((mergeMarks (world.link 3).marks (setupFields 3 2 512 96 96).marks).get .c1).low
            < ((mergeMarks (world.link 3).marks (setupFields 3 2 512 96 96).marks).get .c1).high
        ∧ 0 < ((mergeMarks (world.link 3).marks (setupFields 3 2 512 96 96).marks).get .c0).low
        ∧ ((mergeMarks (world.link 3).marks (setupFields 3 2 512 96 96).marks).get .c0).low
            < ((mergeMarks (world.link 3).marks (setupFields 3 2 512 96 96).marks).get .c0).high
        ∧ ((mergeMarks (world.link 3).marks (setupFields 3 2 512 96 96).marks).get .c0).high ≤ 512)
    ∧ (SettingUp 0 2 512 512 511 State.reset ∧ (State.reset.link 0).state = .unconfigured
        ∧ 512 + State.reset.otherShares 0 + State.reset.poolShare ≤ 4096
        ∧ ∀ c ∈ allClasses, 0 < ((mergeMarks (State.reset.link 0).marks (setupFields 0 2 512 512 511).marks).get c).low
            ∧ ((mergeMarks (State.reset.link 0).marks (setupFields 0 2 512 512 511).marks).get c).low
                < ((mergeMarks (State.reset.link 0).marks (setupFields 0 2 512 512 511).marks).get c).high
            ∧ ((mergeMarks (State.reset.link 0).marks (setupFields 0 2 512 512 511).marks).get c).high ≤ 512) := by
  and_intros <;> decide

/-- A link that is OFF and unfit, its quality above its thresholds. -/
def unfitLink : Link := { coastalLink .off with fit := false }

/-- A LINK_TUNE that carries the unfitness threshold alone. -/
def tuneRequest (k qu : Nat) : List Byte := BitVec.ofNat 8 k :: [0, 0, 0, 0, 0] ++ 1 :: beBytes 2 qu ++ [0, 0, 0, 0, 0, 0]

def tuneFields (k qu : Nat) : LinkTuneFields :=
  ⟨k, .all none, none, some qu, none, none, .all none⟩

theorem witness_LinkTunePutsFieldsInForce :
    (Asking .linkTune .lp 17 (tuneRequest 6 0) readLinkTune (tuneFields 6 0) world
        ∧ Rested (asking .lp (ask 17 (tuneRequest 6 0)) world))
    ∧ (Asking .linkTune .lp 17 (tuneRequest 5 1024) readLinkTune (tuneFields 5 1024) State.reset
        ∧ Rested (asking .lp (ask 17 (tuneRequest 5 1024)) State.reset) ∧ State.reset.keepsFit 5 false)
    ∧ (Asking .linkTune .lp 17 (tuneRequest 0 900) readLinkTune (tuneFields 0 900) world ∧ world.keepsFit 0 true)
    ∧ (Asking .linkTune .lp 17 (tuneRequest 0 901) readLinkTune (tuneFields 0 901) world ∧ (world.link 0).fit = true
        ∧ (world.link 0).quality < 901 ∧ world.service = .serving)
    ∧ (Asking .linkTune .lp 17 (tuneRequest 0 901) readLinkTune (tuneFields 0 901) (crossingWorld 63)
        ∧ ((crossingWorld 63).link 0).fit = true ∧ RoutesLawful (crossingWorld 63)
        ∧ WakesFit (losing 0 { coastalLink .active with qu := 901, fit := false }) ∧ NoDrainRetires (crossingWorld 63))
    ∧ (Asking .linkTune .lp 17 (tuneRequest 3 120) readLinkTune (tuneFields 3 120) (losing 3 unfitLink)
        ∧ ((losing 3 unfitLink).link 3).fit = false ∧ RoutesLawful (losing 3 unfitLink)
        ∧ WakesFit ((losing 3 unfitLink).setLink 3 { unfitLink with fit := true }) ∧ NoDrainRetires (losing 3 unfitLink)
        ∧ NoticesLawful (asking .lp (ask 17 (tuneRequest 3 120)) (losing 3 unfitLink))) :=
  ⟨⟨by decide, world_rested⟩, ⟨by decide, reset_rested _ _, .inr rfl⟩, ⟨by decide, .inl rfl⟩, by decide,
    ⟨by decide, rfl, losing_routes 0 _, losing_wakes fun e => (nomatch e), losing_keeps 0 _⟩,
    ⟨by decide, rfl, losing_routes _ _, losing_wakes_twice fun _ => (by decide : unfitLink.qu ≤ 512), losing_keeps _ _, asking_notices _ _ _ world_notices⟩⟩

/-- The part with the failed link's carrier lost. -/
def carrierGone : State := world.setLink 5 { world.link 5 with carrier := false }

theorem carrierGone_rested : Rested carrierGone := world_rested

theorem witness_LinkEntersWarming :
    (Asking .linkPowerOn .lp 18 [6, 0] readLinkName (6, 0) world ∧ Rested (asking .lp (ask 18 [6, 0]) world))
    ∧ Asking .linkPowerOn .lp 18 [5, 2] readLinkName (5, 2) world
    ∧ (Asking .linkStatusUp .lp 19 [0, 0] readLinkName (0, 0) State.reset ∧ (State.reset.link 0).state = .unconfigured
        ∧ Rested (asking .lp (ask 19 [0, 0]) State.reset))
    ∧ (Asking .linkPowerOn .lp 18 [2, 0] readLinkName (2, 0) world
        ∧ (world.link 2).state ∈ [LinkState.warming, .standby, .active])
    ∧ (Asking .linkPowerOn .lp 18 [4, 0] readLinkName (4, 0) world ∧ (world.link 4).state = .retiring)
    ∧ (Asking .linkStatusUp .lp 19 [3, 0] readLinkName (3, 0) world ∧ (world.link 3).state = .off)
    ∧ (Asking .linkPowerOn .lp 18 [3, 0] readLinkName (3, 0) world ∧ (world.link 3).warmUp = some 20
        ∧ world.keepsFit 3 ((world.link 3).onWarmUp world.now 20).fit)
    ∧ (Asking .linkStatusUp .lp 19 [5, 0] readLinkName (5, 0) world ∧ (world.link 5).state = .failed)
    ∧ (Rested world ∧ (world.link 0).carrier = true)
    ∧ (Rested State.reset ∧ (State.reset.link 0).carrier = false ∧ (State.reset.link 0).state ≠ .failed)
    ∧ (Rested carrierGone ∧ (carrierGone.link 5).carrier = false ∧ (carrierGone.link 5).state = .failed
        ∧ (carrierGone.link 5).warmUp = some 20)
    ∧ (Asking .linkPowerOn .lp 18 [3, 0] readLinkName (3, 0) (losing 3 unfitLink) ∧ ((losing 3 unfitLink).link 3).state = .off
        ∧ (unfitLink.onWarmUp 1000000 20).fit = true ∧ (crossingWorld 63).service = .serving
        ∧ RoutesLawful (losing 3 unfitLink) ∧ NoDrainRetires (losing 3 unfitLink)
        ∧ WakesFit ((losing 3 unfitLink).setLink 3 (unfitLink.onWarmUp 1000000 20))) :=
  ⟨⟨by decide, world_rested⟩, by decide, ⟨by decide, rfl, reset_rested _ _⟩, by decide, by decide, by decide,
    ⟨by decide, rfl, .inl rfl⟩, by decide, ⟨world_rested, rfl⟩, ⟨⟨rfl, fun _ _ e => (nomatch e)⟩, by decide⟩,
    ⟨carrierGone_rested, by decide⟩, by decide, rfl, by decide, rfl, losing_routes _ _, losing_keeps _ _,
    losing_wakes_twice fun e => (nomatch e)⟩

theorem witness_LinkGoesOff :
    (Asking .linkPowerOff .lp 18 [6, 1] readLinkName (6, 1) world ∧ Rested (asking .lp (ask 18 [6, 1]) world))
    ∧ (Asking .linkPowerOff .lp 18 [0, 1] readLinkName (0, 1) State.reset ∧ (State.reset.link 0).state = .unconfigured
        ∧ Rested (asking .lp (ask 18 [0, 1]) State.reset))
    ∧ (Asking .linkPowerOff .lp 18 [4, 1] readLinkName (4, 1) world ∧ (world.link 4).state ∈ [LinkState.off, .retiring])
    ∧ (Asking .linkPowerOff .lp 18 [1, 1] readLinkName (1, 1) world ∧ (world.link 1).state ∈ [LinkState.warming, .standby, .failed]
        ∧ ∀ r, (world.route r).waitsFor 1 = false)
    ∧ (Asking .linkPowerOff .lp 18 [2, 1] readLinkName (2, 1) world ∧ (world.link 2).state ∈ [LinkState.warming, .standby, .failed]
        ∧ (world.route 2).waitsFor 2 = true ∧ ∀ j, (world.link j).qu ≤ 512)
    ∧ (Rested world ∧ (world.link 1).state = .standby ∧ (world.link 1).lingerDeadline = some 500 ∧ 500 ≤ world.now)
    ∧ (Rested State.reset ∧ (State.reset.link 0).state ≠ .standby)
    ∧ (Asking .linkPowerOff .lp 18 [2, 1] readLinkName (2, 1) (crossingWorld 63) ∧ ((crossingWorld 63).link 2).state = .warming
        ∧ RoutesLawful (crossingWorld 63) ∧ WakesFit (crossingWorld 63) ∧ NoDrainRetires (crossingWorld 63)
        ∧ (∀ r, ((crossingWorld 63).route r).bound ≠ some 2) ∧ ((crossingWorld 63).route 6).waitsFor 2 = true) :=
  ⟨⟨by decide, world_rested⟩, ⟨by decide, rfl, reset_rested _ _⟩, by decide, by decide, by decide, ⟨world_rested, by decide⟩,
    ⟨⟨rfl, fun _ _ e => (nomatch e)⟩, by decide⟩, by decide, rfl, (crossingWorld_routes 63).1, (crossingWorld_routes 63).2.1,
    (crossingWorld_routes 63).2.2, by decide, rfl⟩

theorem witness_ActiveLinkRetires :
    Presented .linkPowerOff .lp (ask 18 [0, 1]) (asking .lp (ask 18 [0, 1]) world)
      ∧ readLinkName [0, 1] = some ((0 : LinkId).val, 1) ∧ (world.link 0).state = .active
      ∧ Lawful (asking .lp (ask 18 [0, 1]) world) ∧ (∀ r, (world.route r).reselect = false)
      ∧ (Presented .linkPowerOff .lp (ask 18 [0, 1]) (asking .lp (ask 18 [0, 1]) drained) ∧ (drained.link 0).state = .active
        ∧ Lawful (asking .lp (ask 18 [0, 1]) drained) ∧ WakesFit drained ∧ NoDrainRetires drained
        ∧ (∀ r, (drained.route r).reselect = false) ∧ (drained.route 0).waitsFor 0 = false) :=
  ⟨by decide, by decide, rfl, asking_lawful _ _, by decide, by decide, rfl, drained_lawful _ _, by unfold WakesFit; decide,
    drained_keeps, by decide, rfl⟩

theorem witness_LinkFails :
    (Asking .linkStatusDown .lp 19 [6, 1] readLinkName (6, 1) world ∧ NoticesLawful (asking .lp (ask 19 [6, 1]) world)
        ∧ Rested (asking .lp (ask 19 [6, 1]) world))
    ∧ (Asking .linkStatusDown .lp 19 [0, 1] readLinkName (0, 1) State.reset ∧ (State.reset.link 0).state = .unconfigured)
    ∧ (Asking .linkStatusDown .lp 19 [3, 1] readLinkName (3, 1) world ∧ (world.link 3).state ∈ [LinkState.off, .failed])
    ∧ (Asking .linkStatusDown .lp 19 [2, 1] readLinkName (2, 1) world
        ∧ (world.link 2).state ∈ [LinkState.warming, .standby, .active, .retiring])
    ∧ (NoticesLawful world ∧ Rested world ∧ (carrierGone.link 5).carrier = false)
    ∧ ((world.link 2).carrier = true ∧ (world.link 2).state ∈ [LinkState.unconfigured, .off, .warming, .failed])
    ∧ ((world.link 0).carrier = true ∧ (world.link 0).state ∈ [LinkState.standby, .active, .retiring])
    ∧ ((closingWorld.link 4).carrier = true ∧ (closingWorld.link 4).state = .retiring ∧ NoticesLawful closingWorld
        ∧ Rested closingWorld ∧ TablesCanonical closingWorld ∧ ContextsListed closingWorld ∧ AccountsLawful closingWorld
        ∧ FundsFollowed closingWorld ∧ closingWorld.session 2 = some closingSession ∧ closingWorld.queuedFrames 2 = 1)
    ∧ (∀ k ∈ ([0, 1, 2] : List LinkId), Asking .linkStatusDown .lp 19 [BitVec.ofNat 8 k.val, 1] readLinkName (k.val, 1) (crossingWorld 63)
        ∧ ((crossingWorld 63).link k).state ∈ [LinkState.warming, .standby, .active, .retiring]
        ∧ RoutesLawful (crossingWorld 63) ∧ WakesFit (crossingWorld 63)
        ∧ NoDrainRetires (losing k { world.link k with state := .failed, warmUpDeadline := none, lingerDeadline := none })) :=
  ⟨⟨by decide, asking_notices _ _ _ world_notices, world_rested⟩, by decide, by decide, by decide,
    ⟨world_notices, world_rested, rfl⟩, by decide, by decide, ⟨rfl, rfl, world_notices, closingWorld_rested, closingWorld_tables,
    world_contexts, world_accounts, closingWorld_funds, rfl, by decide⟩, fun k h =>
    ⟨by fin_cases h <;> decide, by fin_cases h <;> decide, (crossingWorld_routes 63).1, (crossingWorld_routes 63).2.1,
      losing_keeps k _⟩⟩

/-- The part with no route waiting for the link that warms up. -/
def unawaited : State := world.setRoute 2 Route.reset

/-- With a route waiting, one is newly bound; with none, none is bound after the event. -/
theorem witness_WarmUpLeavesBoundOrUnbound :
    (∃ t, exec (.warmUpDeadline 2) world = .next t ∧ (t.route 2).bound = some 2 ∧ (world.route 2).bound ≠ some 2)
    ∧ (Rested unawaited ∧ NoticesLawful unawaited ∧ (unawaited.link 2).warmUpDeadline = some 500 ∧ (unawaited.link 2).carrier = true
        ∧ unawaited.queuedOn 2 = 0
        ∧ ∃ t, exec (.warmUpDeadline 2) unawaited = .next t ∧ ∀ r, (t.route r).bound ≠ some 2) :=
  ⟨⟨_, rfl, by decide +kernel, by decide⟩, world_rested, world_notices, rfl, rfl, by decide, _, rfl, by decide +kernel⟩

/-- The link that warms up, its carrier lost. -/
def carrierless : Link := { world.link 2 with carrier := false }

theorem witness_WarmUpEndsReadyOrFailed :
    NoticesLawful world ∧ Rested world ∧ (world.link 2).state = .warming ∧ (world.link 2).warmUpDeadline = some 500
      ∧ 500 ≤ world.now ∧ (world.link 2).carrier = true ∧ (world.route 2).swap = .waking .forced 2
      ∧ ((world.setLink 2 { world.link 2 with carrier := false }).link 2).carrier = false
      ∧ (world.link 0).state ≠ .warming
      ∧ (NoticesLawful undrained ∧ Rested undrained ∧ (undrained.link 2).state = .warming
        ∧ (undrained.link 2).warmUpDeadline = some 500 ∧ undrained.service = .serving ∧ WakesFit undrained ∧ NoDrainRetires undrained
        ∧ (undrained.route 4).bound = none ∧ (undrained.route 4).waitsFor 2 = false ∧ (undrained.route 4).swap = .idle)
      ∧ (RoutesLawful (losing 2 carrierless) ∧ WakesFit (losing 2 carrierless) ∧ NoticesLawful (losing 2 carrierless)
        ∧ NoDrainRetires ((losing 2 carrierless).setLink 2 { carrierless with state := .failed, warmUpDeadline := none }))
      ∧ (TablesCanonical world ∧ ContextsListed world ∧ AccountsLawful world ∧ FundsFollowed world) :=
  ⟨world_notices, world_rested, rfl, rfl, by decide, rfl, rfl, rfl, by decide,
    ⟨world_notices, world_rested, rfl, rfl, rfl, undrained_wakes, undrained_keeps, rfl, rfl, rfl⟩,
    ⟨losing_routes _ _, losing_wakes fun e => (nomatch e), world_notices, losing_keeps 2 _⟩,
    world_tables, world_contexts, world_accounts, world_funds⟩

/-- The part with the bound link's quality at its threshold. -/
def worn : State := world.setLink 0 { world.link 0 with quality := 120, degraded := true }

/-- The bound link at its threshold, fit or not. -/
def judgedLink (fit : Bool) : Link := { coastalLink .active with quality := 120, degraded := true, fit := fit }

theorem witness_LinkReportMovesTheQuality :
    (Asking .linkReport .lp 20 (6 :: beBytes 2 0) readLinkReport (6, 0) world
        ∧ Rested (asking .lp (ask 20 (6 :: beBytes 2 0)) world))
    ∧ (Asking .linkReport .lp 20 (3 :: beBytes 2 0) readLinkReport (3, 0) world
        ∧ (world.link 3).state ∈ [LinkState.unconfigured, .off, .failed])
    ∧ (Asking .linkReport .lp 20 (0 :: beBytes 2 1024) readLinkReport (0, 1024) world
        ∧ (world.link 0).state ∈ [LinkState.warming, .standby, .active, .retiring]
        ∧ (7 * (world.link 0).quality + min 1024 1023 + 4) / 8 = 915 ∧ (world.link 0).qu ≤ 915)
    ∧ (Asking .linkReport .lp 20 (0 :: beBytes 2 0) readLinkReport (0, 0) worn ∧ (worn.link 0).fit = true
        ∧ (7 * (worn.link 0).quality + min 0 1023 + 4) / 8 < (worn.link 0).qu ∧ worn.service = .serving)
    ∧ (∀ x ∈ ([0, 1000] : List Nat), RoutesLawful (losing 0 (judgedLink (x = 0)))
        ∧ Asking .linkReport .lp 20 (0 :: beBytes 2 x) readLinkReport (0, x) (losing 0 (judgedLink (x = 0)))
        ∧ (if x = 0 then (7 * 120 + 0 + 4) / 8 < (judgedLink true).qu
           else (judgedLink false).qu + (judgedLink false).hq ≤ (7 * 120 + 1000 + 4) / 8)
        ∧ NoDrainRetires (losing 0 (judgedLink (x = 0)))
        ∧ ∀ q fit flag, WakesFit (losing 0 { judgedLink (x = 0) with quality := q, fit := fit, degraded := flag })) :=
  ⟨⟨by decide, world_rested⟩, by decide, by decide, by decide, fun x h =>
    ⟨losing_routes _ _, by fin_cases h <;> decide, by fin_cases h <;> decide, losing_keeps _ _,
      fun _ _ _ => losing_wakes fun e => (nomatch e)⟩⟩

theorem witness_SelectionsWalkThePreferenceList :
    world.prefs = [0, 1]
    ∧ (∀ k ∈ world.prefs, inMask (world.route 0).permitted k = true ∧ (world.segment.map fun g => inMask g.usable k) = some true
        ∧ (world.link k).state ∈ [LinkState.off, .warming, .standby, .active] ∧ (world.link k).fit = true)
    ∧ (world.link 1).state = .standby ∧ (∀ k ∈ world.prefs, inMask (world.route 4).permitted k = false) := by
  and_intros <;> decide

abbrev Governing (r mask : Nat) (s : State) : Prop :=
  Asking .routePolicy .pp 33 [BitVec.ofNat 8 r, BitVec.ofNat 8 mask, 0, 0, 0] readPolicy ⟨r, BitVec.ofNat 8 mask, none, none, none⟩ s

theorem witness_RoutePolicyIsPutInForce :
    (Governing 8 0 world ∧ Rested (asking .pp (ask 33 [8, 0, 0, 0, 0]) world))
    ∧ (Governing 7 64 world ∧ 64 ≤ (BitVec.ofNat 8 64).toNat)
    ∧ (Governing 0 63 world ∧ (BitVec.ofNat 8 63).toNat < 64 ∧ Rested (asking .pp (ask 33 [0, 63, 0, 0, 0]) world))
    ∧ (Governing 0 63 State.reset ∧ Rested (asking .pp (ask 33 [0, 63, 0, 0, 0]) State.reset))
    ∧ ((∀ mask ∈ [63, 62, 59, 58], ∀ r : RouteId, Governing r.val mask (crossingWorld 63)) ∧ RoutesLawful (crossingWorld 63)
        ∧ WakesFit (crossingWorld 63) ∧ NoDrainRetires (crossingWorld 63)) :=
  ⟨⟨by decide, world_rested⟩, by decide, ⟨by decide, by decide, world_rested⟩, ⟨by decide, reset_rested _ _⟩, by decide,
    crossingWorld_routes 63⟩

abbrev Swapping (q : Request) (r target : Nat) (force : Bool) (s : State) : Prop :=
  Asking q .lp 23 [BitVec.ofNat 8 r, BitVec.ofNat 8 target, if force then 1 else 0] readSwap ⟨r, target, force⟩ s

/-- The part with route 0 bound to a link it is no longer permitted. -/
def stranded : State := world.setRoute 0 { world.route 0 with permitted := 0 }

theorem witness_SwapRequestsAreChecked :
    (Swapping .swapRoute 0 1 false State.reset ∧ State.reset.service = .configuring)
    ∧ Swapping .swapRouteForce 8 1 true world ∧ Swapping .swapRoute 7 6 false world
    ∧ (Swapping .swapRoute 1 5 false world ∧ (world.route 1).swap ≠ .idle)
    ∧ (Swapping .swapRouteForce 0 0 true world ∧ (world.route 0).bound = some 0)
    ∧ (Swapping .swapRoute 0 4 false world ∧ (world.route 0).bound ≠ some 4 ∧ world.candidate 0 none 4 = false)
    ∧ (Swapping .swapRoute 0 255 false stranded ∧ (stranded.route 0).bound = some 0 ∧ (stranded.route 0).swap = .idle
        ∧ stranded.routineSelection 0 none = none)
    ∧ (Swapping .swapRoute 0 255 false world ∧ (world.route 0).bound = some 0 ∧ world.routineSelection 0 none = some 0)
    ∧ (Swapping .swapRouteForce 4 255 true world ∧ (world.route 4).bound = none ∧ (world.route 4).swap = .idle
        ∧ world.forcedSelection 4 none = none) := by
  and_intros <;> decide

/-- The part with a route settled on its second choice. -/
def settling : State := world.setRoute 0 { world.route 0 with bound := some 1, lastGood := some 1, settle := some (0, 500) }

/-- The part with a DARK route that may choose, one bound to the only link it may use, and one that waits for the only link it may
use. -/
def choosing : State :=
  ((world.setRoute 4 { Route.reset with permitted := 63 }).setRoute 0 { world.route 0 with permitted := 1 }).setRoute 2
    { world.route 2 with permitted := 4 }

/-- The part with reselect pending on the route whose probation ends. -/
def reselecting : State := world.setRoute 1 { world.route 1 with reselect := true }

/-- R57 and R59: a rollback by AUTO with FORCE makes no selection, though reselect is pending and the preferred link is ready. -/
theorem test_forced_rollback_stays :
    ∃ t, exec (.swapRouteForce .lp) (asking .lp (ask 23 [1, 255, 1]) reselecting) = .next t
      ∧ (t.route 1).bound = some 1 ∧ (t.route 1).swap = .idle ∧ reselecting.routineSelection 1 none = some 0 :=
  ⟨_, rfl, by decide +kernel⟩

theorem settling_routes : RoutesLawful settling := by
  intro r
  fin_cases r <;> simp [Route.lawful, State.route, State.setRoute, settling, world, boundRoute, Route.reset]

theorem choosing_routes : RoutesLawful choosing := by
  intro r
  fin_cases r <;> simp [Route.lawful, State.route, State.setRoute, choosing, world, boundRoute, Route.reset]

theorem world_strikes : world.strikeSelects 0 0 := ⟨fun _ _ _ e => (nomatch e), fun _ _ e => (nomatch e)⟩

theorem choosing_strikes : choosing.strikeSelects 0 0 := ⟨fun _ _ _ e => (nomatch e), fun _ _ e => (nomatch e)⟩

theorem witness_SwapStartsOrRollsBack :
    (Swapping .swapRoute 0 1 false world ∧ (world.route 0).swap = .idle ∧ SwapChooses false 1 0 1 world
        ∧ RoutesLawful world ∧ world.ready 1 = true)
    ∧ (Swapping .swapRouteForce 0 3 true world ∧ SwapChooses true 3 0 3 world ∧ (world.link 3).state = .off
        ∧ (world.link 3).qu ≤ 512)
    ∧ (Swapping .swapRouteForce 0 2 true world ∧ SwapChooses true 2 0 2 world ∧ (world.link 2).state = .warming)
    ∧ (Swapping .swapRoute 4 255 false choosing ∧ (choosing.route 4).swap = .idle ∧ SwapChooses false 255 4 0 choosing
        ∧ RoutesLawful choosing ∧ choosing.ready 0 = true)
    ∧ (Swapping .swapRoute 0 255 false settling ∧ (settling.route 0).swap = .idle ∧ SwapChooses false 255 0 0 settling
        ∧ RoutesLawful settling ∧ settling.ready 0 = true)
    ∧ (Swapping .swapRouteForce 0 255 true world ∧ SwapChooses true 255 0 1 world)
    ∧ (Swapping .swapRouteForce 1 255 true world ∧ (world.route 1).bound = some 0
        ∧ (world.route 1).swap = .probation .routine 500 ∧ (world.route 1).lastGood = some 1 ∧ world.ready 1 = true
        ∧ world.candidate 1 none 1 = true ∧ Swapping .swapRouteForce 1 255 true reselecting
        ∧ (reselecting.route 1).reselect = true ∧ NoticesLawful (asking .lp (ask 23 [1, 255, 1]) world) ∧ world.raised = [])
    ∧ (Swapping .swapRouteForce 0 255 true choosing ∧ (choosing.route 0).bound = some 0 ∧ choosing.strikeSelects 0 0
        ∧ choosing.forcedSelection 0 (some 0) = none ∧ NoticesLawful (asking .lp (ask 23 [0, 255, 1]) choosing))
    ∧ (Swapping .swapRouteForce 2 255 true choosing ∧ (choosing.route 2).bound = none
        ∧ (choosing.route 2).swap = .waking .forced 2 ∧ choosing.forcedSelection 2 none = none
        ∧ Rested (asking .lp (ask 23 [2, 255, 1]) choosing)) :=
  ⟨⟨by decide, by decide, .inl (by decide), world_routes, by decide⟩, ⟨by decide, .inl (by decide), by decide⟩,
    ⟨by decide, .inl (by decide), by decide⟩, ⟨by decide, by decide, .inr (.inl (by decide)), choosing_routes, by decide⟩,
    ⟨by decide, by decide, .inr (.inr (.inl ⟨rfl, rfl, 1, by decide⟩)), settling_routes, by decide⟩,
    ⟨by decide, .inr (.inr (.inr ⟨rfl, rfl, 0, rfl, world_strikes, by decide⟩))⟩,
    ⟨by decide, rfl, by decide, rfl, by decide, by decide, by decide, rfl, asking_notices _ _ _ world_notices, rfl⟩,
    ⟨by decide, rfl, choosing_strikes, by decide, asking_notices _ _ _ world_notices⟩, by decide, by decide, by decide, by decide,
    world_rested⟩

theorem witness_DrainEndsAtItsDeadline :
    NoticesLawful world ∧ world.raised = [] ∧ (world.route 3).draining = some (4, 500) ∧ 500 ≤ world.now
      ∧ 0 < world.routeFrames 3 4 ∧ (world.route 0).draining = none
      ∧ ((closingWorld.route 3).draining = some (4, 500) ∧ 500 ≤ closingWorld.now ∧ NoticesLawful closingWorld
        ∧ Rested closingWorld ∧ TablesCanonical closingWorld ∧ ContextsListed closingWorld ∧ AccountsLawful closingWorld
        ∧ FundsFollowed closingWorld) :=
  ⟨world_notices, rfl, rfl, by decide, by decide, rfl, rfl, by decide, world_notices, closingWorld_rested, closingWorld_tables,
    world_contexts, world_accounts, closingWorld_funds⟩

theorem witness_ProbationAndSettleDeadlinesAct :
    (NoticesLawful world ∧ Rested world ∧ (world.route 1).swap = .probation .routine 500 ∧ 500 ≤ world.now
        ∧ (world.route 1).reselect = false ∧ (world.route 0).swap = .idle)
    ∧ ((world.route 0).settle = some (1, 500) ∧ (world.route 0).bound = some 0 ∧ world.preferred 0 0 ≠ some 1)
    ∧ (Rested settling ∧ (settling.route 0).settle = some (0, 500) ∧ (settling.route 0).swap = .idle
        ∧ (settling.route 0).bound = some 1 ∧ settling.preferred 0 1 = some 0)
    ∧ (world.route 1).settle = none
    ∧ ((world.route 1).bound = some 0 ∧ NoticesLawful reselecting ∧ Rested reselecting
        ∧ (reselecting.route 1).swap = .probation .routine 500 ∧ (reselecting.route 1).bound = some 0
        ∧ (reselecting.route 1).reselect = true ∧ WakesFit reselecting) :=
  ⟨⟨world_notices, world_rested, by decide⟩, by decide, ⟨world_rested, by decide⟩, rfl, rfl, world_notices, world_rested, rfl, rfl, rfl,
    by unfold WakesFit; decide⟩

/-! #### Zones, service, store and clock -/

/-- The part with all that service waits for but the link port's start flag. -/
def nearlyServing : State :=
  { State.reset with
    zone := world.zone, tariff := world.tariff, ports := State.reset.ports.set .pp { PortState.reset .pp with startFlag := true } }

theorem nearlyServing_notices : NoticesLawful nearlyServing := by
  intro p
  cases p
  · exact world_notices .rp
  · exact world_notices .lp
  · exact world_notices .pp

/-- The part with both start flags set, its service not begun. -/
def starting (tracker : Tracker) (tariff : Option (List TariffEntry)) : State :=
  { nearlyServing with
    zone := { world.zone with tracker := tracker }, tariff := tariff
    ports := nearlyServing.ports.set .lp { PortState.reset .lp with startFlag := true } }

theorem starting_notices (tracker : Tracker) (tariff : Option (List TariffEntry)) : NoticesLawful (starting tracker tariff) := by
  intro p
  cases p
  · exact world_notices .rp
  · exact world_notices .lp
  · exact world_notices .pp

/-- A CONFIGURING part that a fix, or a tariff, makes ready to serve, and one that the other condition still holds back. -/
theorem starting_ready (t : Tracker) (f : Option (List TariffEntry)) (x : Fix) (d : Nat) (table : List TariffEntry)
    (run : Option (RunDirection × Nat)) :
    (starting t f).service = .configuring ∧ (starting t f).raised = [] ∧ WakesFit (starting t f)
      ∧ (∀ r, ((starting t f).route r).bound = none ∧ ((starting t f).route r).swap = .idle)
      ∧ { starting t (some table) with zone := { world.zone with tracker := .located x d, run := run } }.readyToServe
      ∧ { starting (.located x d) f with tariff := some table }.readyToServe
      ∧ ¬{ starting t none with zone := { world.zone with tracker := .located x d, run := run } }.readyToServe
      ∧ ¬{ starting .unlocated f with tariff := some table }.readyToServe := by
  have flags : ∀ q, q ≠ .rp → ((starting t f).port q).startFlag = true := fun q h => by cases q <;> first | rfl | exact absurd rfl h
  have wakes : WakesFit nearlyServing := by unfold WakesFit; decide
  have dark : ∀ r, (nearlyServing.route r).bound = none ∧ (nearlyServing.route r).swap = .idle := by decide
  exact ⟨rfl, rfl, wakes, dark,
    ⟨by show world.zone.table ≠ []; decide, ⟨x, d, rfl⟩, rfl, flags⟩, ⟨by show world.zone.table ≠ []; decide, ⟨x, d, rfl⟩, rfl, flags⟩,
    fun h => (nomatch h.2.2.1), fun ⟨_, ⟨_, _, e⟩, _⟩ => (nomatch e)⟩

def segmentRequest (g : RawSegment) : List Byte :=
  beBytes 2 g.start ++ beBytes 1 g.zone ++ yesNo g.silent ++ beBytes 1 g.usable.toNat ++ listBytes (beBytes 1) g.prefs

def zoneRequest (l : List RawSegment) : List Byte := listBytes segmentRequest l ++ [0, 0, 0]

/-- For each check a segment that passes the checks before it, behind one that starts at 0 and passes all. -/
theorem witness_EachZoneFaultIsFirst :
    (∀ e, ¬(⟨0, 0, false, 1, [0]⟩ : RawSegment).fails none e)
    ∧ ∀ x ∈ ([(.order, ⟨0, 8, false, 0, []⟩), (.tariffZone, ⟨1, 8, false, 0, []⟩), (.prefLength, ⟨1, 7, false, 0, []⟩),
          (.prefLink, ⟨1, 7, false, 0, [6, 6]⟩), (.prefDuplicate, ⟨1, 7, false, 0, [5, 5]⟩),
          (.prefUnusable, ⟨1, 7, false, 16, [5, 4]⟩)] : List (ZoneFault × RawSegment)),
        x.2.fails (some 0) x.1 ∧ ∀ c : ZoneFault, c.number < x.1.number → ¬x.2.fails (some 0) c := by
  refine ⟨fun e => by cases e <;> simp [RawSegment.fails], fun x h => ?_⟩
  fin_cases h <;> exact ⟨by simp [RawSegment.fails], fun c => by cases c <;> simp [RawSegment.fails, ZoneFault.number]⟩

theorem witness_ZoneLoadFaultsAreFoundInOrder :
    zoneFault [⟨0, 7, false, 63, [5, 4, 3, 2]⟩, ⟨1, 0, true, 1, [0]⟩] = none
    ∧ zoneFault (List.replicate 16 ⟨0, 0, false, 1, [0]⟩) = some (.order, 1)
    ∧ 16 < (List.replicate 17 (⟨0, 0, false, 1, [0]⟩ : RawSegment)).length
    ∧ (([] : List RawSegment).length < 16 ∧ (⟨1, 0, false, 1, [0]⟩ : RawSegment).start ≠ 0)
    ∧ (Asking .zoneLoad .lp 22 (zoneRequest [⟨0, 0, false, 1, [0]⟩, ⟨1, 8, false, 1, [0]⟩]) readZoneLoad
          ⟨[⟨0, 0, false, 1, [0]⟩, ⟨1, 8, false, 1, [0]⟩], none, none, none⟩ world
        ∧ zoneFault [⟨0, 0, false, 1, [0]⟩, ⟨1, 8, false, 1, [0]⟩] = some (.tariffZone, 1)) := by
  and_intros <;> decide

theorem witness_ZoneLoadReplacesTheTable :
    (Asking .zoneLoad .lp 22 (zoneRequest [⟨0, 0, false, 1, [0]⟩]) readZoneLoad ⟨[⟨0, 0, false, 1, [0]⟩], none, none, none⟩ world
        ∧ NoticesLawful (asking .lp (ask 22 (zoneRequest [⟨0, 0, false, 1, [0]⟩])) world)
        ∧ Rested (asking .lp (ask 22 (zoneRequest [⟨0, 0, false, 1, [0]⟩])) world)
        ∧ zoneFault [⟨0, 0, false, 1, [0]⟩] = none ∧ world.zone.tracker.fix? = some ⟨0, 10, 0⟩
        ∧ TablesCanonical world ∧ ContextsListed world ∧ AccountsLawful world ∧ FundsFollowed world)
    ∧ (Asking .zoneLoad .lp 22 (zoneRequest [⟨0, 0, false, 1, [0]⟩]) readZoneLoad ⟨[⟨0, 0, false, 1, [0]⟩], none, none, none⟩ undrained
        ∧ undrained.service = .serving ∧ RoutesLawful undrained ∧ WakesFit undrained ∧ NoDrainRetires undrained)
    ∧ (Asking .zoneLoad .lp 22 (zoneRequest [⟨0, 0, false, 1, [0]⟩]) readZoneLoad ⟨[⟨0, 0, false, 1, [0]⟩], none, none, none⟩
          State.reset
        ∧ Rested (asking .lp (ask 22 (zoneRequest [⟨0, 0, false, 1, [0]⟩])) State.reset)
        ∧ State.reset.zone.tracker = .unlocated)
    ∧ (∀ tracker ∈ [Tracker.unlocated, .stale ⟨0, 10, 0⟩, .located ⟨0, 10, 0⟩ 500], ∀ f,
        Asking .zoneLoad .lp 22 (zoneRequest [⟨0, 0, false, 1, [0]⟩]) readZoneLoad ⟨[⟨0, 0, false, 1, [0]⟩], none, none, none⟩
            (starting tracker f)
        ∧ NoticesLawful (asking .lp (ask 22 (zoneRequest [⟨0, 0, false, 1, [0]⟩])) (starting tracker f))) :=
  ⟨⟨by decide, asking_notices _ _ _ world_notices, world_rested, by decide, rfl, world_tables, world_contexts, world_accounts,
    world_funds⟩, ⟨by decide, rfl, undrained_routes, undrained_wakes, undrained_keeps⟩, ⟨by decide, reset_rested _ _, rfl⟩,
    fun _ _ _ => ⟨⟨⟨rfl, rfl, by decide⟩, by decide⟩, asking_notices _ _ _ (starting_notices _ _)⟩⟩

abbrev Positioned (d quality : Nat) (s : State) : Prop :=
  Asking .position .lp 21 (beBytes 2 d ++ [BitVec.ofNat 8 quality]) readPosition (d, quality) s

theorem witness_DegradedPositionIsOnlyCounted :
    Positioned 0 2 world ∧ (Positioned 0 0 State.reset ∧ State.reset.zone.table = [])
    ∧ (Positioned 65535 1 world ∧ world.zone.table ≠ []) := by
  and_intros <;> decide

/-- Inside the segment, in the guard band and clear of it; the last starts a run of one. -/
theorem witness_GoodPositionUpdatesTheRun :
    (Positioned 999 0 world ∧ world.zone.tracker.fix? = some ⟨0, 10, 0⟩
        ∧ world.zone.table[0]? = some ⟨0, 0, false, 63, [0, 1]⟩
        ∧ Rested (asking .lp (ask 21 (beBytes 2 999 ++ [0])) world) ∧ world.service = .serving
        ∧ segmentEnd world.zone.table 0 = 999 ∧ world.zone.run = none ∧ 0 < world.zone.confirmCount)
    ∧ (Positioned 1049 0 world ∧ 999 < 1049 ∧ 1049 ≤ 999 + world.zone.guardDistance)
    ∧ (Positioned 1050 0 world ∧ 999 + world.zone.guardDistance < 1050 ∧ 1 < world.zone.confirmCount)
    ∧ (∀ f, Positioned 999 0 (starting (.stale ⟨0, 10, 0⟩) f) ∧ (starting (.stale ⟨0, 10, 0⟩) f).zone.run = none
        ∧ (starting (.stale ⟨0, 10, 0⟩) f).zone.tracker.fix? = some ⟨0, 10, 0⟩ ∧ (starting (.stale ⟨0, 10, 0⟩) f).located = false
        ∧ NoticesLawful (asking .lp (ask 21 (beBytes 2 999 ++ [0])) (starting (.stale ⟨0, 10, 0⟩) f))) :=
  ⟨⟨by decide, rfl, rfl, world_rested, by decide⟩, by decide, by decide, fun _ =>
    ⟨⟨⟨rfl, rfl, by decide⟩, by decide⟩, rfl, rfl, rfl, asking_notices _ _ _ (starting_notices _ _)⟩⟩

/-- A crossing that all links survive, one that link 0 does not, one that the target 2 does not, one that neither does. -/
theorem witness_CrossingsReachEveryRoute (usable : LinkMask) (h : usable ∈ ([63, 62, 59, 58] : List LinkMask)) :
    Positioned 1050 0 (crossingWorld usable) ∧ (crossingWorld usable).service = .serving
      ∧ (crossingWorld usable).zone.table[segmentAt (crossingWorld usable).zone.table 1050]? = some ⟨1000, 1, true, usable, [1, 2, 0]⟩
      ∧ NoticesLawful (asking .lp (ask 21 (beBytes 2 1050 ++ [0])) (crossingWorld usable))
      ∧ Rested (asking .lp (ask 21 (beBytes 2 1050 ++ [0])) (crossingWorld usable)) ∧ TablesCanonical (crossingWorld usable)
      ∧ ContextsListed (crossingWorld usable) ∧ AccountsLawful (crossingWorld usable) ∧ FundsFollowed (crossingWorld usable)
      ∧ (crossingWorld usable).silent = false ∧ silentWorld.silent = true := by
  fin_cases h <;>
    exact ⟨by decide, rfl, rfl, asking_notices _ _ _ world_notices, world_rested, world_tables, world_contexts, world_accounts,
      world_funds, rfl, rfl⟩

theorem witness_CrossingMovesParksAndEvaluates :
    ((unfixed.zone.table.map (·.start)).Pairwise (· < ·) ∧ unfixed.zone.table[0]? = some ⟨0, 0, false, 63, [0, 1]⟩
        ∧ unfixed.zone.table[0 + 1]? = some ⟨1000, 1, true, 63, [1]⟩ ∧ unfixed.zone.table[1 + 1]? = none)
    ∧ (Positioned 1000 0 unfixed ∧ unfixed.zone.table[segmentAt unfixed.zone.table 1000]? = some ⟨1000, 1, true, 63, [1]⟩
        ∧ unfixed.zone.tracker = .unlocated ∧ NoticesLawful (asking .lp (ask 21 (beBytes 2 1000 ++ [0])) unfixed)
        ∧ TablesCanonical unfixed ∧ Rested (asking .lp (ask 21 (beBytes 2 1000 ++ [0])) unfixed))
    ∧ (Positioned 1050 0 nearlyAcross
        ∧ nearlyAcross.zone.table[segmentAt nearlyAcross.zone.table 1050]? = some ⟨1000, 1, true, 63, [1]⟩
        ∧ nearlyAcross.zone.tracker.fix? = some ⟨0, 10, 0⟩
        ∧ runAfter nearlyAcross.zone.run (placeOf 0 (segmentEnd nearlyAcross.zone.table 0) nearlyAcross.zone.guardDistance 1050)
            = some (.up, 3)
        ∧ nearlyAcross.zone.confirmCount ≤ 3)
    ∧ (ContextsListed nearlyAcross ∧ AccountsLawful nearlyAcross
        ∧ nearlyAcross.crossingClosings nearlyAcross.zone.table[0]? ⟨1000, 1, true, 63, [1]⟩ = [(0, .park)]
        ∧ nearlyAcross.crossingClosings nearlyAcross.zone.table[0]? ⟨1000, 1, false, 63, [1]⟩ = [(0, .zone)])
    ∧ (∀ f, Positioned 1000 0 (starting .unlocated f) ∧ (starting .unlocated f).located = false
        ∧ (starting .unlocated f).zone.table[segmentAt world.zone.table 1000]? = some ⟨1000, 1, true, 63, [1]⟩
        ∧ NoticesLawful (asking .lp (ask 21 (beBytes 2 1000 ++ [0])) (starting .unlocated f))) :=
  ⟨by decide, ⟨by decide, rfl, rfl, asking_notices _ _ _ world_notices, world_tables, world_rested⟩, by decide,
    ⟨world_contexts, world_accounts, by decide⟩, fun _ =>
    ⟨⟨⟨rfl, rfl, by decide⟩, by decide⟩, rfl, rfl, asking_notices _ _ _ (starting_notices _ _)⟩⟩

theorem witness_StaleExpiryHoldsTheSegment :
    NoticesLawful world ∧ Rested world ∧ world.zone.tracker = .located ⟨0, 10, 0⟩ 500 ∧ 500 ≤ world.now
      ∧ State.reset.zone.tracker = .unlocated :=
  ⟨world_notices, world_rested, by decide⟩

abbrev Storing (share : Nat) (s : State) : Prop := Asking .storeSetup .lp 24 (beBytes 2 share) (readOne 2) share s

theorem witness_StoreAndMeterParametersAreSet :
    (Storing 8 world ∧ world.service = .serving) ∧ (Storing 7 State.reset ∧ State.reset.service = .configuring)
    ∧ (Storing 1025 State.reset ∧ 4096 < 1025 + State.reset.linkShares)
    ∧ (Storing 1024 State.reset ∧ 1024 + State.reset.linkShares ≤ 4096)
    ∧ (Asking .meterSetup .pp 41 [0, 0, 1, 0, 1] readMeterSetup ⟨none, none, some 1⟩ world
        ∧ NoticesLawful (asking .pp (ask 41 [0, 0, 1, 0, 1]) world)) :=
  ⟨by decide, by decide, by decide, by decide, by decide, asking_notices _ _ _ world_notices⟩

theorem witness_VoyageClockIsSetAndTicks :
    Asking .clockSet .lp 25 (beBytes 4 4294967295) (readOne 4) 4294967295 world ∧ world.clock.nextSecond ≤ world.now
      ∧ State.reset.now < State.reset.clock.nextSecond := by decide

theorem witness_StartSetsTheFlagAndMayServe :
    (Presented .start .lp (ask 26 []) (asking .lp (ask 26 []) nearlyServing) ∧ (ask 26 []).body = []
        ∧ Rested (asking .lp (ask 26 []) nearlyServing) ∧ nearlyServing.service = .configuring
        ∧ nearlyServing.zone.table ≠ [] ∧ (∃ x d, nearlyServing.zone.tracker = .located x d) ∧ nearlyServing.tariff.isSome = true
        ∧ (∀ q, q ≠ .rp → q = .lp ∨ (nearlyServing.port q).startFlag = true)
        ∧ WakesFit nearlyServing ∧ (∀ r, (nearlyServing.route r).bound = none ∧ (nearlyServing.route r).swap = .idle)
        ∧ NoticesLawful (asking .lp (ask 26 []) nearlyServing))
    ∧ (Presented .start .pp (ask 26 []) (asking .pp (ask 26 []) State.reset) ∧ Rested (asking .pp (ask 26 []) State.reset)
        ∧ State.reset.zone.table = [])
    ∧ (Presented .start .pp (ask 26 []) (asking .pp (ask 26 []) world) ∧ world.service = .serving) :=
  ⟨⟨by decide, rfl, ⟨rfl, fun _ _ e => (nomatch e)⟩, rfl, by decide, ⟨_, _, rfl⟩, rfl, fun q h => by cases q <;> simp at h ⊢; rfl,
      by unfold WakesFit; decide, by decide, asking_notices _ _ _ nearlyServing_notices⟩,
    ⟨by decide, reset_rested _ _, rfl⟩, by decide, rfl⟩

/-! #### Tariff, accounts, records and contexts -/

def entryRequest (e : RawTariff) : List Byte :=
  beBytes 1 e.permission ++ (beBytes 4 e.rates.c0 ++ (beBytes 4 e.rates.c1 ++ (beBytes 4 e.rates.c2 ++ beBytes 4 e.rates.c3)))

theorem readTariffEntry_written (e : RawTariff) (h : beNumber (beBytes 1 e.permission) = e.permission)
    (h0 : beNumber (beBytes 4 e.rates.c0) = e.rates.c0) (h1 : beNumber (beBytes 4 e.rates.c1) = e.rates.c1)
    (h2 : beNumber (beBytes 4 e.rates.c2) = e.rates.c2) (h3 : beNumber (beBytes 4 e.rates.c3) = e.rates.c3)
    (rest : List Byte) : readTariffEntry (entryRequest e ++ rest) = some (e, rest) := by
  simp [readTariffEntry, entryRequest, readPerClass, readField_append, List.append_assoc, h, h0, h1, h2, h3]

def goodEntry : RawTariff := ⟨2, .all 65535⟩
def tariffRequest (e : RawTariff) : List Byte := [64] ++ ((List.replicate 63 (entryRequest goodEntry)).flatten ++ entryRequest e)

theorem tariffRequest_length (e : RawTariff) : (tariffRequest e).length = Config.tariffBody := by
  have k (e : RawTariff) : (entryRequest e).length = 17 := by simp [entryRequest]
  rw [tariffRequest, List.length_append, List.length_append, List.length_flatten, List.map_replicate, List.sum_replicate, k, k]
  rfl

/-- Step 3 of R149: 63 entries, whose form is sound, take 1072 bytes. -/
theorem test_tariff_of_63_entries_is_too_long : readTariffLoad (63 :: List.replicate 1071 0) = none :=
  if_neg (by rw [List.length_cons, List.length_replicate]; decide)

theorem readTariffLoad_written (e : RawTariff) (h : ∀ rest, readTariffEntry (entryRequest e ++ rest) = some (e, rest)) :
    readTariffLoad (tariffRequest e) = some (List.replicate 63 goodEntry ++ [e]) := by
  have g := readTimes_replicate (readTariffEntry_written goodEntry rfl rfl rfl rfl rfl) 63 (entryRequest e)
  have l : readTimes readTariffEntry 1 (entryRequest e) = some ([e], []) := by
    have := h []
    rw [List.append_nil] at this
    simp [readTimes, this]
  have both := readTimes_add l 63 _ _ g
  have one : readField 1 (tariffRequest e)
      = some (64, (List.replicate 63 (entryRequest goodEntry)).flatten ++ entryRequest e) := readField_append rfl
  have fits : (tariffRequest e).length = Config.tariffBody := tariffRequest_length e
  rw [readTariffLoad, if_pos (.inr fits)]
  simp only [readList, one]
  rw [show (64 : Nat) = 63 + 1 from rfl, both]; rfl

theorem tariff_presented (e : RawTariff) {s : State} (h : (s.port .pp).outbound = []) :
    Presented .tariffLoad .pp (ask 32 (tariffRequest e)) (asking .pp (ask 32 (tariffRequest e)) s) :=
  ⟨if_pos ⟨rfl, by show (s.port .pp).outbound.length < 32; rw [h]; decide⟩, rfl, (tariffRequest_length e).le⟩

theorem witness_TariffLoadReplacesTheTable :
    (Asking .tariffLoad .pp 32 [0] readTariffLoad [] world ∧ Rested (asking .pp (ask 32 [0]) world))
    ∧ (Asking .tariffLoad .pp 32 (tariffRequest ⟨3, .all 0⟩) readTariffLoad (List.replicate 63 goodEntry ++ [⟨3, .all 0⟩]) world
        ∧ goodEntry.permission ≤ 2 ∧ ∀ c, goodEntry.rates.get c ≤ 65535)
    ∧ (Asking .tariffLoad .pp 32 (tariffRequest ⟨0, ⟨0, 0, 0, 65536⟩⟩) readTariffLoad
          (List.replicate 63 goodEntry ++ [⟨0, ⟨0, 0, 0, 65536⟩⟩]) world
        ∧ ∃ c, 65535 < (⟨0, 0, 0, 65536⟩ : PerClass Nat).get c)
    ∧ (Asking .tariffLoad .pp 32 (tariffRequest goodEntry) readTariffLoad (List.replicate 63 goodEntry ++ [goodEntry]) world
        ∧ (List.replicate 63 goodEntry ++ [goodEntry]).length = 64 ∧ ContextsListed world ∧ AccountsLawful world ∧ NoneClosing world
        ∧ Rested (asking .pp (ask 32 (tariffRequest goodEntry)) world) ∧ TablesCanonical world
        ∧ NoticesLawful (asking .pp (ask 32 (tariffRequest goodEntry)) world) ∧ FundsFollowed world)
    ∧ (State.reset.openList = [] ∧ ∀ h, State.reset.session h = none)
    ∧ (∀ tracker f, Asking .tariffLoad .pp 32 (tariffRequest goodEntry) readTariffLoad (List.replicate 63 goodEntry ++ [goodEntry])
          (starting tracker f)
        ∧ NoticesLawful (asking .pp (ask 32 (tariffRequest goodEntry)) (starting tracker f))) := by
  have small : ∀ c, goodEntry.rates.get c ≤ 65535 := fun c => by cases c <;> decide
  refine ⟨⟨by decide, world_rested⟩, ⟨⟨tariff_presented _ rfl, readTariffLoad_written _ (readTariffEntry_written _ rfl rfl rfl rfl rfl)⟩,
    by decide, small⟩, ⟨⟨tariff_presented _ rfl, readTariffLoad_written _ (readTariffEntry_written _ rfl rfl rfl rfl rfl)⟩, .c3, by decide⟩,
    ⟨⟨tariff_presented _ rfl, readTariffLoad_written _ (readTariffEntry_written _ rfl rfl rfl rfl rfl)⟩, rfl, world_contexts,
      world_accounts, world_closings, world_rested, world_tables, asking_notices _ _ _ world_notices, world_funds⟩,
    ⟨rfl, fun _ => rfl⟩, fun _ _ => ⟨⟨tariff_presented _ rfl, readTariffLoad_written _ (readTariffEntry_written _ rfl rfl rfl rfl rfl)⟩,
      asking_notices _ _ _ (starting_notices _ _)⟩⟩

abbrev Opening (a kind : Nat) (amount threshold : Option Nat) (s : State) : Prop :=
  Asking .accountOpen .pp 34 (beBytes 2 a ++ beBytes 1 kind ++ optionalBytes (beBytes 4) amount
    ++ optionalBytes (beBytes 4) threshold) readAccountOpen ⟨a, kind, amount, threshold⟩ s

theorem witness_AccountOpensAfresh :
    Opening 256 0 none none world ∧ (Opening 2 0 none none world ∧ (world.account 2).isOpen = true)
    ∧ (Opening 255 3 none none world ∧ (world.account 255).isOpen = false)
    ∧ Opening 255 0 (some 2147483648) none world ∧ Opening 255 0 none (some 2147483648) world
    ∧ Opening 255 1 (some 0) none world ∧ Opening 255 0 (some 2147483647) (some 2147483647) world
    ∧ Opening 255 1 (some 1) none world ∧ Opening 255 2 none none world
    ∧ (∀ h x, world.session h = some x → x.account ≠ 255)
    ∧ TablesCanonical world ∧ ∀ m, Rested (asking .pp m world) := by
  refine ⟨by decide, by decide, by decide, by decide, by decide, by decide, by decide, by decide, by decide, fun h x e => ?_,
    world_tables, fun _ => world_rested⟩
  obtain ⟨-, rfl⟩ | ⟨-, rfl⟩ := world_session e <;> decide

/-- The part with a charge that no record carries yet. -/
def carrying : State :=
  { world with accounts := world.accounts.put 2 (some { openAccount with kind := some .crew, balance := 0, carry := { Carry.clear with charge := 1 } }) }

/-- The part with a record of account 1. -/
def recorded : State := { world with crq := [unrecordedRecord 1 .clear] }

abbrev ClosingAccount (a : Nat) (s : State) : Prop := Asking .accountClose .pp 35 (beBytes 2 a) (readOne 2) a s

theorem witness_AccountClosesWhenUnused :
    ClosingAccount 256 world ∧ (ClosingAccount 255 world ∧ (world.account 255).isOpen = false)
    ∧ (ClosingAccount 0 world ∧ (world.account 0).isOpen = true ∧ world.session 0 = some firstSession ∧ firstSession.account = 0)
    ∧ (ClosingAccount 2 carrying ∧ (carrying.account 2).isOpen = true ∧ 0 < (carrying.account 2).carry.charge)
    ∧ (ClosingAccount 1 recorded ∧ (recorded.account 1).isOpen = true ∧ (recorded.account 1).carry.charge = 0
        ∧ (recorded.crq.map (·.account)) = [1])
    ∧ (ClosingAccount 1 world ∧ (world.account 1).isOpen = true ∧ (world.crq.map (·.account)) = [0])
    ∧ (∀ h x, world.session h = some x → x.account = 0) ∧ TablesCanonical world ∧ TablesCanonical carrying := by
  refine ⟨by decide, by decide, by decide, by decide, by decide, by decide, fun h x e => ?_, world_tables,
    ⟨by decide, by decide, by decide, by decide, by decide, by decide, by decide⟩⟩
  obtain ⟨-, rfl⟩ | ⟨-, rfl⟩ := world_session e <;> rfl

abbrev Crediting (a amount sequence : Nat) (s : State) : Prop :=
  Asking .accountCredit .pp 36 (beBytes 2 a ++ beBytes 4 amount ++ beBytes 2 sequence) readCredit ⟨a, amount, sequence⟩ s

theorem witness_CreditRepaysAndRaises :
    Crediting 256 1 0 world ∧ (Crediting 255 1 0 world ∧ (world.account 255).isOpen = false)
    ∧ Crediting 0 0 0 world ∧ Crediting 0 2147483648 0 world
    ∧ (Crediting 2 1 0 world ∧ (world.account 2).kind = some .crew)
    ∧ (Crediting 0 1 1 world ∧ (1 : Nat) ≠ (world.account 0).sequence.toNat)
    ∧ (Crediting 0 2147483647 0 world ∧ (world.account 0).isOpen = true ∧ (world.account 0).kind = some .prepaid
        ∧ 0 = (world.account 0).sequence.toNat)
    ∧ (Crediting 1 1 0 world ∧ (world.account 1).kind = some .postpaid)
    ∧ TablesCanonical world ∧ AccountsLawful world ∧ FundsFollowed world ∧ ∀ m, Rested (asking .pp m world) :=
  ⟨by decide, by decide, by decide, by decide, by decide, by decide, by decide, by decide, world_tables, world_accounts,
    world_funds, fun _ => world_rested⟩

def settingBytes : Setting → List Byte
  | .keep => [0]
  | .remove => [2]
  | .value v => 1 :: beBytes 4 v

abbrev Configuring (a sequence : Nat) (threshold cap : Setting) (s : State) : Prop :=
  Asking .accountSet .pp 37 (beBytes 2 a ++ beBytes 2 sequence ++ settingBytes threshold ++ settingBytes cap) readAccountSet
    ⟨a, sequence, threshold, cap⟩ s

theorem witness_AccountSetPutsSettingsInForce :
    Configuring 256 0 .keep .keep world
    ∧ (Configuring 0 0 .keep (.value 1) world ∧ (world.account 0).kind ≠ some .postpaid ∧ (world.account 0).isOpen = true)
    ∧ Configuring 0 0 (.value 2147483648) .keep world
    ∧ (Configuring 1 0 .keep (.value 0) world ∧ (world.account 1).kind = some .postpaid)
    ∧ (Configuring 0 1 .keep .keep world ∧ (1 : Nat) ≠ (world.account 0).sequence.toNat)
    ∧ (Configuring 0 0 (.value 2147483647) .keep world ∧ (world.account 0).kind = some .prepaid
        ∧ 0 = (world.account 0).sequence.toNat ∧ (world.account 0).low = false ∧ (world.account 0).balance < 2147483647)
    ∧ (Configuring 1 0 .remove (.value 4294967295) world ∧ 0 = (world.account 1).sequence.toNat)
    ∧ TablesCanonical world ∧ (∀ m, NoticesLawful (asking .pp m world)) ∧ AccountsLawful world ∧ FundsFollowed world
    ∧ ∀ m, Rested (asking .pp m world) :=
  ⟨by decide, by decide, by decide, by decide, by decide, by decide, by decide, world_tables,
    fun _ => asking_notices _ _ _ world_notices, world_accounts, world_funds, fun _ => world_rested⟩

def finishedRecord : ChargeRecord := unrecordedRecord 0 .clear

/-- The part with a SEALED context and a carry that wait for room in the queue. -/
def waitingWorld : State :=
  { carrying with
    slots := ⟨[(0, .opened someContext 500), (1, .sealed someContext .interval ⟨0, false⟩ finishedRecord)]⟩
    sealList := [1] }

theorem waitingWorld_slot {i : Nat} {v : Slot} (e : waitingWorld.slot i = some v) :
    i = 0 ∧ v = .opened someContext 500 ∨ i = 1 ∧ v = .sealed someContext .interval ⟨0, false⟩ finishedRecord := by
  simp only [State.slot, Table.get?, waitingWorld, Table.lookup] at e
  split at e
  · exact .inl ⟨by assumption, (Option.some.inj e).symm⟩
  · split at e
    · exact .inr ⟨by assumption, (Option.some.inj e).symm⟩
    · cases e

theorem waitingWorld_open {i : Nat} {x : Context} {d : Nat} (e : waitingWorld.openContext i = some (x, d)) :
    i = 0 ∧ x = someContext := by
  unfold State.openContext at e
  cases f : waitingWorld.slot i with
  | none => simp [f] at e
  | some v =>
    obtain ⟨rfl, rfl⟩ | ⟨rfl, rfl⟩ := waitingWorld_slot f <;> simp [f] at e
    exact ⟨rfl, e.1.symm⟩

theorem waitingWorld_contexts : ContextsListed waitingWorld := by
  refine ⟨by decide, by decide, fun i => ⟨fun h => ?_, fun h => ?_⟩, fun i => ⟨fun h => ?_, ?_⟩, fun i j x y d e hi hj _ _ => ?_,
    fun i x d hi => ?_⟩
  · obtain rfl : i = 0 := by simpa [waitingWorld, carrying, world] using h
    rfl
  · obtain ⟨⟨x, d⟩, e⟩ := Option.isSome_iff_exists.1 h
    rw [(waitingWorld_open e).1]; decide
  · obtain rfl : i = 1 := by simpa [waitingWorld] using h
    exact ⟨_, rfl, rfl⟩
  · rintro ⟨v, e, h⟩
    obtain ⟨rfl, rfl⟩ | ⟨rfl, rfl⟩ := waitingWorld_slot e
    · cases h
    · decide
  · rw [(waitingWorld_open hi).1, (waitingWorld_open hj).1]
  · rw [(waitingWorld_open hi).2]; rfl

theorem waitingWorld_accounts : AccountsLawful waitingWorld := by
  intro a
  by_cases h : a = 2
  · subst h
    exact ⟨by decide, by decide, by decide, by decide, by decide, by decide, by decide, by decide, fun h => (nomatch h),
      fun h => (nomatch h), fun _ => rfl, fun h => (nomatch h), by decide⟩
  · have : waitingWorld.account a = world.account a := by
      simp only [State.account, waitingWorld, carrying]
      rw [Table.get?_put_ne _ h]
    rw [this]; exact world_accounts a

theorem waitingWorld_rested (m : Message) : Rested (asking .pp m waitingWorld) :=
  ⟨rfl, fun h x e c => by rw [world_closings h x e] at c; cases c⟩

abbrev Taking (n : Nat) (s : State) : Prop := Asking .recordTake .pp 40 [BitVec.ofNat 8 n] (readOne 1) n s

theorem witness_RecordsAreTakenAndDelivered :
    Taking 0 waitingWorld ∧ Taking 17 waitingWorld ∧ (Taking 16 State.reset ∧ State.reset.crq = [])
    ∧ (Taking 1 waitingWorld ∧ waitingWorld.crq ≠ [] ∧ TablesCanonical waitingWorld
        ∧ QueuesInBounds (asking .pp (ask 40 [1]) waitingWorld) ∧ AccountsLawful waitingWorld ∧ ContextsListed waitingWorld
        ∧ Rested (asking .pp (ask 40 [1]) waitingWorld)
        ∧ waitingWorld.waitingRecords = [finishedRecord, unrecordedRecord 2 { Carry.clear with charge := 1 }])
    ∧ (Taking 16 world ∧ world.crq ≠ [] ∧ world.waitingRecords = []) :=
  ⟨by decide, by decide, by decide, ⟨by decide, by decide, ⟨by decide, by decide, by decide, by decide, by decide, by decide, by decide⟩,
    (asking_lawful _ _).1, waitingWorld_accounts, waitingWorld_contexts, waitingWorld_rested _, by decide⟩, by decide, by decide, rfl⟩

theorem witness_IntervalClosesTheContext :
    (Rested world ∧ AccountsLawful world ∧ FundsFollowed world ∧ world.openContext 0 = some (someContext, 500) ∧ 500 ≤ world.now
      ∧ world.openContext 63 = none ∧ TablesCanonical world ∧ NoticesLawful world)
    ∧ (Rested closingWorld ∧ AccountsLawful closingWorld ∧ FundsFollowed closingWorld ∧ ¬NoneClosing closingWorld
      ∧ closingWorld.openContext 0 = some (someContext, 500)) :=
  ⟨⟨world_rested, world_accounts, world_funds, rfl, by decide, rfl, world_tables, world_notices⟩,
    closingWorld_rested, world_accounts, closingWorld_funds, fun n => by simpa [closingSession, Phase.isClosing] using n 2 closingSession rfl,
    rfl⟩

/-! #### Frames and notices -/

/-- The part with session 0 barred, and with link 0 filled to its share. -/
def barredWorld : State :=
  { world with sessions := world.sessions.put 0 (some { firstSession with causes := ⟨false, true, false⟩ }) }
def fullLink : State :=
  { world with queues := world.queues.set 0 ⟨⟨List.replicate 64 { lawfulFrame 0 .c0 0 0 with length := 2048, blocks := 8 }, [], [], []⟩, .all true⟩ }

theorem witness_UplinkFramesAreCheckedAndAdmitted :
    (world.tagEntry 2048 = none ∧ world.tagEntry 7 = some (1, .c2) ∧ world.session 1 = some secondSession
        ∧ secondSession.phase = .parked 500)
    ∧ (world.tagEntry 5 = some (0, .c0) ∧ world.session 0 = some firstSession ∧ (101 : BitVec 32) ≠ firstSession.address
        ∧ (∀ d, firstSession.phase ≠ .parked d))
    ∧ (barredWorld.tagEntry 6 = some (0, .c1) ∧ ((barredWorld.session 0).map (·.causes.barred)) = some true
        ∧ ((barredWorld.session 0).map (·.address)) = some 100)
    ∧ ({ world with routes := world.routes.set 0 Route.reset }.route firstSession.group).bound = none
    ∧ ((fullLink.route firstSession.group).bound = some 0
        ∧ (fullLink.link 0).share < occupancyAll (fullLink.linkQueues 0).frames + (40 + 255) / 256)
    ∧ ((world.route firstSession.group).bound = some 0
        ∧ occupancyAll (world.linkQueues 0).frames + (2048 + 255) / 256 ≤ (world.link 0).share) := by
  refine ⟨by decide, ⟨rfl, rfl, by decide, fun d e => nomatch e⟩, by decide, rfl, ⟨rfl, by decide⟩, rfl, by decide⟩

theorem witness_DownlinkFramesAreCheckedAndAdmitted :
    TablesCanonical world ∧ IdentitiesDistinct world
    ∧ (world.link 3).state ∉ [LinkState.standby, .active, .retiring] ∧ (world.link 4).state ∈ [LinkState.standby, .active, .retiring]
    ∧ (∀ h x, world.session h = some x → x.address ≠ 0)
    ∧ (closingWorld.session 2 = some closingSession ∧ closingSession.phase.isClosing = true)
    ∧ (world.session 1 = some secondSession ∧ secondSession.phase = .parked 500)
    ∧ (world.session 0 = some firstSession ∧ firstSession.phase = .active)
    ∧ (barredWorld.session 0).map (·.causes.barred) = some true
    ∧ { world with poolShare := 2 }.poolShare < occupancyAll world.pool + (40 + 255) / 256
    ∧ occupancyAll world.pool + (2048 + 255) / 256 ≤ world.poolShare :=
  ⟨world_tables, world_identities, by decide, by decide, world_identities.1, by decide⟩

/-- The part much later: every frame that waits is overaged. -/
def late : State := { world with now := 2000000 }

theorem late_lawful : Lawful late :=
  ⟨world_lawful.1, world_notices, world_tables, world_contexts, world_links, world_routes, world_zone, world_accounts, world_funds,
    world_bearers, world_identities, (nomatch ·), world_paths, world_latches, world_conditions, world_meter, world_books, world_waits, world_fills⟩

theorem witness_TransmitSendsTheChosenHead :
    (Lawful world ∧ NoneClosing world ∧ world.mayChoose 0 .c0 ∧ (∀ b, world.before 0 b .c0 → False)
        ∧ (world.linkQueues 0).frames.get .c0 = [] ++ lawfulFrame 0 .c0 0 0 :: []
        ∧ ¬world.tooOld (lawfulFrame 0 .c0 0 0) ∧ world.session 0 = some firstSession
        ∧ world.openContext 0 = some (someContext, 500))
    ∧ (Lawful late ∧ NoneClosing late ∧ late.mayChoose 0 .c0
        ∧ ∀ c, late.mayChoose 0 c → ∀ f ∈ (late.linkQueues 0).frames.get c, late.tooOld f) := by
  have only : ∀ c, world.mayChoose 0 c → c = .c0 := fun c h => by
    cases c <;> first | rfl | exact absurd rfl h.1
  refine ⟨⟨world_lawful, world_closings, ⟨by decide, by decide⟩, fun b h => ?_, rfl, by simp [State.tooOld]; decide, rfl, rfl⟩,
    late_lawful, world_closings, ⟨by decide, by decide⟩, fun c h f m => ?_⟩
  · obtain rfl := only b h.1
    rcases h.2 with h | h
    · exact absurd h (Nat.lt_irrefl _)
    · exact absurd h.2 (Nat.lt_irrefl _)
  · obtain rfl := only c h
    have : f = lawfulFrame 0 .c0 0 0 := by simpa [late, world, State.linkQueues, PerClass.get] using m
    subst this
    simp [State.tooOld, lawfulFrame, late, world, State.reset, resetAgeLimits, PerClass.get]

/-- An overaged frame is the last of a closing session with an OPEN context in slot 1, and a frame of session 0 is behind it. -/
def lastFrameAged : State :=
  { closingWorld with
    queues := world.queues.set 0 ⟨⟨[{ lawfulFrame 2 .c0 0 0 with arrival := 0 }], [{ lawfulFrame 0 .c1 0 0 with arrival := 999900 }], [], []⟩, .all false⟩
    slots := ⟨[(0, .opened someContext 500), (1, .opened { someContext with session := 2 } 500)]⟩
    openList := [0, 1] }

/-- R105: the closing comes to its end before the frame behind is metered, which finds slot 1 FREE. -/
theorem test_closing_ends_before_the_next_frame_is_metered :
    ∃ t, exec (.transmitOpportunity 0) lastFrameAged = .next t ∧ t.session 2 = none
      ∧ (t.crq.getLast?.map fun r => (r.reason, r.session)) = some (6, 2)
      ∧ (t.slot 1).map (fun v => (v.isOpen, v.context.session, v.context.cls)) = some (true, 0, .c1) :=
  ⟨_, rfl, by decide⟩

/-- The last frame of closing session 5 is overaged, and behind it stands the last one of closing session 2. -/
def twoClose : State :=
  { closingWorld with
    sessions := ⟨[(2, closingSession), (5, { closingSession with digest := 15, address := 105 })]⟩
    queues := world.queues.set 0 ⟨⟨[{ lawfulFrame 5 .c0 0 0 with arrival := 0 }], [{ lawfulFrame 2 .c1 0 0 with arrival := 999900 }], [], []⟩, .all false⟩
    slots := ⟨[(0, .opened { someContext with session := 5 } 500), (1, .opened { someContext with session := 2 } 500)]⟩
    openList := [0, 1] }

/-- R105, R143: in one opportunity session 2, which the sent frame empties, offers its records (two classes) before session 5, which
the discard emptied. -/
theorem test_closings_of_one_opportunity_in_rising_order :
    ∃ t, exec (.transmitOpportunity 0) twoClose = .next t ∧ (t.crq.drop 1).map (fun r => (r.session, r.cls)) = [(2, 0), (2, 1), (5, 0)] :=
  ⟨_, rfl, by decide⟩

theorem witness_DeliveryTakesTheFirstPoolFrame :
    (Lawful world ∧ NoneClosing world ∧ world.pool.get .c1 = [] ++ poolFrame :: [] ∧ ¬world.tooOld poolFrame
      ∧ (∀ b : TrafficClass, b.number < TrafficClass.c1.number → ∀ g ∈ world.pool.get b, world.tooOld g)
      ∧ world.session poolFrame.session = some firstSession)
    ∧ (Lawful late ∧ ∀ c, ∀ f ∈ late.pool.get c, late.tooOld f) := by
  refine ⟨⟨world_lawful, world_closings, rfl, by simp [State.tooOld]; decide, fun b h g m => ?_, rfl⟩, late_lawful, fun c f m => ?_⟩
  · cases b <;> simp [TrafficClass.number] at h
    cases m
  · cases c <;> simp [late, world, PerClass.get] at m
    subst m
    simp [State.tooOld, poolFrame, late, world, State.reset, resetAgeLimits, PerClass.get]

abbrev Noticing (entries : List (Nat × Nat)) (s : State) : Prop :=
  Asking .noticeSetup .rp 54 ([0] ++ listBytes (fun e : Nat × Nat => beBytes 1 e.1 ++ beBytes 1 e.2) entries) readNoticeSetup
    ⟨none, entries⟩ s

theorem witness_NoticeSettingsArePutInForce :
    (Asking .setLevel .rp 53 [4] (readOne 1) 4 world ∧ ∀ p m, NoticesLawful (asking p m world))
    ∧ (Noticing (List.replicate 6 (3, 1)) world ∧ ((world.port .rp).slots.map fun sl => sl.kind.code).length < 6)
    ∧ (Noticing [(3, 1), (6, 1)] world ∧ 3 ∈ ((world.port .rp).slots.map fun sl => sl.kind.code)
        ∧ 6 ∉ ((world.port .rp).slots.map fun sl => sl.kind.code))
    ∧ (Noticing [(4, 1), (3, 1), (3, 2)] world ∧ ([(4, 1), (3, 1), (3, 2)].map (·.1)).count 4 = 1)
    ∧ (Noticing [(1, 1), (2, 1), (3, 4), (4, 0), (5, 1)] world ∧ [1, 2, 3, 4, 5].Nodup) :=
  ⟨⟨by decide, fun p m => asking_notices p m world world_notices⟩, by decide, by decide, by decide, by decide⟩

theorem witness_CountersAreReadAgainstBaselines :
    Asking .countersRead .rp 55 [3] (readOne 1) 3 world
    ∧ (Asking .countersRead .rp 55 [2] (readOne 1) 2 world ∧ ((2, 116, 7) : Nat × Nat × Nat) ∈ [(0, 0, 24), (1, 24, 92), (2, 116, 7)])
    ∧ Asking .countersRead .rp 55 [0] (readOne 1) 0 world := by decide

/-- A port at level 0 with one urgent kind and two of level 3 pending. -/
def noisy (pacingDeadline : Option Nat) : State :=
  world.setPort .lp { PortState.reset .lp with
    level := 0, pacing := 1000, pacingDeadline := pacingDeadline
    slots := (defaultSlots .lp).map fun sl => if sl.level < 3 then sl else { sl with pending := some ⟨1, 0, 0⟩ } }

theorem noisy_notices (d : Option Nat) : NoticesLawful (noisy d) := by
  intro q
  cases q
  · exact world_notices .rp
  · refine ⟨Nat.zero_le _, Nat.le_refl _, rfl, ?_⟩
    simp [noisy, State.setPort, State.port, PerPort.set, PerPort.get, defaultSlots, defaultLevels]
  · exact world_notices .pp

theorem witness_NoticesAreChosenByLevelAndPaced :
    (NoticesLawful (noisy none) ∧ ((noisy none).port .lp).outbound.length < 32
        ∧ ((noisy none).port .lp).slots = [] ++ ⟨.peerRestart, 4, some ⟨1, 0, 0⟩⟩ :: ((noisy none).port .lp).slots.tail
        ∧ ((noisy none).port .lp).level < 4
        ∧ ∀ o ∈ ((noisy none).port .lp).slots.tail, o.level ≤ 4)
    ∧ (NoticesLawful world ∧ ∀ sl ∈ (world.port .rp).slots, sl.pending = none)
    ∧ (NoticesLawful (noisy (some 500)) ∧ ((noisy (some 500)).port .lp).pacingDeadline = some 500 ∧ 500 ≤ (noisy (some 500)).now)
    ∧ (world.port .rp).pacingDeadline = none :=
  ⟨⟨noisy_notices _, by decide⟩, ⟨world_notices, by decide⟩, ⟨noisy_notices _, by decide⟩, rfl⟩

/-! #### What every step keeps -/

theorem witness_laws_hold_after_power_on :
    QueuesInBounds State.reset ∧ NoticesLawful State.reset ∧ TablesCanonical State.reset ∧ IdentitiesDistinct State.reset :=
  ⟨⟨fun p => by cases p <;> decide, by decide⟩,
    fun p => by
      cases p <;> refine ⟨by decide, by decide, by decide, ?_⟩ <;>
        simp [State.port, PerPort.get, State.reset, PortState.reset, defaultSlots, defaultLevels],
    reset_tables, reset_identities⟩

/-- Every law holds of a part in service, and steps can be taken from it. -/
theorem witness_EveryStepKeeps :
    Lawful world ∧ ∃ t, step { world with pending := [.transmitOpportunity 0] } = .next t :=
  ⟨world_lawful, _, rfl⟩

/-! ### Ill-formed commands are refused -/

theorem test_wellFormed_refuses_a_body_of_65536 (p : Port) :
    (Instr.requestReceived p (ask 1 (List.replicate 65536 0))).wellFormed = false := by
  simp only [Instr.wellFormed, Message.wellFormed, ask, List.length_replicate]; decide

theorem test_wellFormed_takes_a_body_of_65535 (p : Port) :
    (Instr.requestReceived p (ask 1 (List.replicate 65535 0))).wellFormed = true := by
  simp only [Instr.wellFormed, Message.wellFormed, ask, List.length_replicate]; decide

theorem test_wellFormed_refuses_tag_65536 : (Instr.uplinkFrame 65536 0 40).wellFormed = false := by decide
theorem test_wellFormed_takes_tag_65535 : (Instr.uplinkFrame 65535 0 40).wellFormed = true := by decide

/-! ### Values the spec works out -/

/-- 02 section 3.6.1. -/
theorem test_quality_through_a_squall : smoothed 512 200 = 473 ∧ smoothed 473 200 = 439 ∧ smoothed 439 900 = 497 := by
  decide

/-- 02 section 3.6.2: fit and degraded after each of the three reports. -/
theorem test_hysteresis :
    (smoothed 130 40 = 119 ∧ judgedFit true 119 120 40 = false ∧ judgedDegraded 119 300 = true) ∧
    (smoothed 119 300 = 142 ∧ judgedFit false 142 120 40 = false) ∧
    (smoothed 142 300 = 162 ∧ judgedFit false 162 120 40 = true ∧ judgedDegraded 162 300 = true) := by decide

/-- R33: "an M above 1023 is taken as 1023". -/
theorem test_measurement_is_held : smoothed 512 65535 = smoothed 512 1023 := by decide

/-- 01 section 2.7.1: where each report falls relative to segment 1, 300..2199 with G = 50. -/
theorem test_places :
    placeOf 300 2199 50 2180 = .inside ∧ placeOf 300 2199 50 2230 = .guardBand ∧ placeOf 300 2199 50 2249 = .guardBand ∧
    placeOf 300 2199 50 2250 = .clear .up ∧ placeOf 300 2199 50 2265 = .clear .up ∧ placeOf 300 2199 50 250 = .guardBand ∧
    placeOf 300 2199 50 249 = .clear .down := by decide

/-- 01 section 2.7.1: the run after events 4 to 9. -/
theorem test_run_through_jitter :
    [2265, 2190, 2275, 2240, 2290, 2305].foldl (fun run d => runAfter run.1 (placeOf 300 2199 50 d) |> fun r => (r, run.2 ++ [r]))
      ((none, []) : Option (RunDirection × Nat) × List (Option (RunDirection × Nat))) =
    (some (.up, 3), [some (.up, 1), none, some (.up, 1), some (.up, 1), some (.up, 2), some (.up, 3)]) := by decide

def meteredContext (rate : Nat) : Context :=
  { session := 4, cls := .c2, zone := 1, group := 0, account := 40, rate := rate, openTime := ⟨0, false⟩, bytesUp := 0,
    bytesDown := 0, charge := 0, residue := 0, clipped := false }

/-- Increment, residue, charge and bytes up after each of some uplink frames. -/
def rated (x : Context) : List Nat → List (Nat × Nat × Nat × Nat)
  | [] => []
  | n :: ns => ((x.rateFrame .up n).2, (x.rateFrame .up n).1.residue, (x.rateFrame .up n).1.charge,
      (x.rateFrame .up n).1.bytesUp) :: rated (x.rateFrame .up n).1 ns

/-- 06 section 7.6.1. -/
theorem test_residue_is_carried :
    rated (meteredContext 3000) [1500, 1500, 400] = [(4, 305696, 4, 1500), (4, 611392, 8, 3000), (1, 762816, 9, 3400)] := by
  decide
theorem test_rounding_unit : { meteredContext 3000 with residue := 762816 }.roundingUnit = 1 := by decide
theorem test_rated_directly : directCharge 1500 3000 = 4 ∧ directCharge 400 3000 = 1 ∧ directCharge 100 2000 = 0 := by decide

/-- 06 section 7.6.2. -/
theorem test_small_frames :
    (rated (meteredContext 2000) (List.replicate 10 100)).map (fun x => (x.2.1, x.2.2.1)) =
    [(200000, 0), (400000, 0), (600000, 0), (800000, 0), (1000000, 0), (151424, 1), (351424, 1), (551424, 1), (751424, 1),
      (951424, 1)] := by decide

/-- 07 section 8.7.1: balance, shortfall and rated total after the five charges. -/
theorem test_prepaid_account_runs_dry :
    let x : Account := { Account.reset with isOpen := true, kind := some .prepaid, balance := 12, rated := 300 }
    let after (n : Nat) := ([2, 3, 5, 4, 1].take n).foldl (fun x c => (x.rateUp c).takeCharge c) x
    [1, 2, 3, 4, 5].map (fun n => ((after n).balance, (after n).shortfall, (after n).rated)) =
    [(10, 0, 302), (7, 0, 305), (2, 0, 310), (0, 2, 314), (0, 3, 315)] := by decide

/-- R90: the blocks of a frame of L bytes. -/
theorem test_blocks : blocksOf 40 = 1 ∧ blocksOf 256 = 1 ∧ blocksOf 257 = 2 ∧ blocksOf 2048 = 8 := by decide

/-- R169: a counter wraps within its 40 bits. -/
theorem test_counter_wraps :
    ((State.reset.count (.bytesSent 0) 1099511627000).count (.bytesSent 0) 1500).counter (.bytesSent 0) = 724 := by
  rfl

end Sys2Proof.Tests
end

section
/-! SUPPORT. Class queues: one value per class read after a write, frames joining a queue and what that does to its
occupancy and latch. -/

namespace Sys2Proof

@[simp] theorem PerClass.get_set_self {α : Type} (p : PerClass α) (c : TrafficClass) (v : α) : (p.set c v).get c = v := by
  cases c <;> rfl

theorem PerClass.get_set_ne {α : Type} (p : PerClass α) {b c : TrafficClass} (h : b ≠ c) (v : α) :
    (p.set c v).get b = p.get b := by
  cases b <;> cases c <;> first | rfl | exact absurd rfl h

@[simp] theorem PerClass.get_all {α : Type} (v : α) (c : TrafficClass) : (PerClass.all v).get c = v := by
  cases c <;> rfl

end Sys2Proof

namespace Sys2Proof.Machine

@[simp] theorem occupancy_append_singleton (q : List Frame) (f : Frame) : occupancy (q ++ [f]) = occupancy q + f.blocks := by
  simp [occupancy]

/-- A raised latch is the old one, or set where the occupancy has reached the high mark (R95). -/
theorem latchRaised_eq_or (m : Marks) (before after : Nat) (latch : Bool) :
    latchRaised m before after latch = (latch || decide (before < m.high ∧ m.high ≤ after)) := by
  unfold latchRaised
  split <;> simp [*]

/-! ### A frame joining a link (R95, R98) -/

theorem joinLink_eq (k : LinkId) (f : Frame) (s : State) :
    joinLink k f s = { s with queues := (joinLink k f s).queues } := rfl

theorem joinLink_linkQueues_ne {j k : LinkId} (h : j ≠ k) (f : Frame) (s : State) :
    (joinLink k f s).linkQueues j = s.linkQueues j := s.linkQueues_setLinkQueues_ne h _

@[simp] theorem joinLink_frames_self (k : LinkId) (f : Frame) (s : State) :
    ((joinLink k f s).linkQueues k).frames.get f.cls = (s.linkQueues k).frames.get f.cls ++ [f] := by
  simp [joinLink]

theorem joinLink_frames_ne (k : LinkId) {f : Frame} {b : TrafficClass} (h : b ≠ f.cls) (s : State) :
    ((joinLink k f s).linkQueues k).frames.get b = (s.linkQueues k).frames.get b := by
  simp [joinLink, PerClass.get_set_ne, h]

@[simp] theorem joinLink_latch_self (k : LinkId) (f : Frame) (s : State) :
    ((joinLink k f s).linkQueues k).latch.get f.cls
      = latchRaised ((s.link k).marks.get f.cls) (occupancy ((s.linkQueues k).frames.get f.cls))
          (occupancy ((s.linkQueues k).frames.get f.cls) + f.blocks) ((s.linkQueues k).latch.get f.cls) := by
  simp [joinLink]

theorem joinLink_latch_ne (k : LinkId) {f : Frame} {b : TrafficClass} (h : b ≠ f.cls) (s : State) :
    ((joinLink k f s).linkQueues k).latch.get b = (s.linkQueues k).latch.get b := by
  simp [joinLink, PerClass.get_set_ne, h]

end Sys2Proof.Machine
end

section
/-! PROOFS. Frames arriving (05 sections 6.4 and 6.5): the checks in order, and the frame admitted. -/

namespace Sys2Proof.Machine

/-! ### What the checks rest on -/

/-- A length passes the malformed check exactly when it is in range (R90). -/
theorem legalLength_iff (n : Nat) : legalLength n = true ↔ 40 ≤ n ∧ n ≤ 2048 := decide_eq_true_iff

theorem legalLength_false_iff (n : Nat) : legalLength n = false ↔ n < 40 ∨ 2048 < n := by
  rw [← Bool.not_eq_true, legalLength_iff]; omega

theorem Phase.isParked_iff (p : Phase) : p.isParked = true ↔ ∃ d, p = .parked d := by
  cases p <;> simp [Phase.isParked]

/-- A frame is restricted when its session holds a cause and its class is not class 0 (R79). -/
theorem restricted_iff (x : Causes) (c : TrafficClass) :
    (!x.isEmpty && decide (c ≠ .c0)) = true
      ↔ ¬((x.funds = false ∧ x.barred = false ∧ x.roaming = false) ∨ c = .c0) := by
  have empty : x.isEmpty = true ↔ x.funds = false ∧ x.barred = false ∧ x.roaming = false := by
    simp [Causes.isEmpty, and_assoc]
  rw [← empty]
  simp

/-! ### Sessions by address (R69, R99) -/

/-- Where addresses are distinct, a session is found by its own. -/
theorem State.byAddress_of_session {s : State} {h : Nat} {x : Session} (tables : TablesCanonical s)
    (distinct : IdentitiesDistinct s) (hx : s.session h = some x) : s.byAddress x.address = some h := by
  have rising : s.sessions.keys.Pairwise (· < ·) := ((Table.wf_iff _ _).1 tables.1).1
  unfold State.byAddress State.findSession
  cases e : s.sessions.entries.find? fun e => decide (e.2.address = x.address) with
  | none => exact absurd (List.find?_eq_none.1 e (h, x) (Table.mem_of_get? hx)) (by simp)
  | some found =>
    obtain ⟨j, y⟩ := found
    have same : y.address = x.address := by simpa using List.find?_some e
    have hy : s.session j = some y := Table.get?_of_mem rising (List.mem_of_find?_eq_some e)
    simp [distinct.2 j h y x hy hx (.inr same)]

/-- An address that no session has finds none. -/
theorem State.byAddress_none {s : State} {a : BitVec 32} (tables : TablesCanonical s)
    (none : ∀ h x, s.session h = some x → x.address ≠ a) : s.byAddress a = .none := by
  have rising : s.sessions.keys.Pairwise (· < ·) := ((Table.wf_iff _ _).1 tables.1).1
  unfold State.byAddress State.findSession
  rw [List.find?_eq_none.2, Option.map_none]
  rintro ⟨h, x⟩ mem
  simpa using none h x (Table.get?_of_mem rising mem)

/-! ### UPLINK_FRAME (R97, R98) -/

theorem exec_uplinkFrame_dropped {s : State} {tag : Nat} {source : BitVec 32} {length : Nat} {why : UplinkDrop}
    (h : s.classifyUplink tag source length = .error why) :
    exec (.uplinkFrame tag source length) s = .next (s.count (.uplink why) 1) := by
  show execUplinkFrame tag source length s = _
  simp only [execUplinkFrame, h]

theorem exec_uplinkFrame_admitted {s : State} {tag : Nat} {source : BitVec 32} {length : Nat} {k : LinkId} {f : Frame}
    (h : s.classifyUplink tag source length = .ok (k, f)) :
    exec (.uplinkFrame tag source length) s = .next (joinLink k f s) := by
  show execUplinkFrame tag source length s = _
  simp only [execUplinkFrame, h]

/-- Settles O47: each case is a branch of `State.classifyUplink`, and the last one is `joinLink`. -/
theorem uplinkFramesAreCheckedAndAdmitted : Obligations.UplinkFramesAreCheckedAndAdmitted := by
  intro tag source length s
  refine ⟨fun bad => exec_uplinkFrame_dropped ?_, fun low high => ?_⟩
  · rw [State.classifyUplink, if_pos ((legalLength_false_iff length).2 bad)]
  have legal : ¬legalLength length = false := by rw [legalLength_false_iff]; omega
  refine ⟨fun none => exec_uplinkFrame_dropped ?_, fun h c x entry session => ?_⟩
  · simp only [State.classifyUplink, if_neg legal, none]
  refine ⟨fun parked => exec_uplinkFrame_dropped ?_, fun unparked => ?_⟩
  · simp only [State.classifyUplink, if_neg legal, entry, session, if_pos (x.phase.isParked_iff.2 parked)]
  have unparked : ¬x.phase.isParked = true := fun h => let ⟨d, e⟩ := x.phase.isParked_iff.1 h; unparked d e
  refine ⟨fun spoof => exec_uplinkFrame_dropped ?_, fun own free freeIff => ?_⟩
  · simp only [State.classifyUplink, if_neg legal, entry, session, if_neg unparked, if_pos spoof]
  have own : ¬source ≠ x.address := fun h => h own
  refine ⟨fun restricted => exec_uplinkFrame_dropped ?_, fun isFree dark => exec_uplinkFrame_dropped ?_,
    fun isFree k blocks bound blocksEq => ?_⟩
  · simp only [State.classifyUplink, if_neg legal, entry, session, if_neg unparked, if_neg own,
      if_pos ((restricted_iff _ _).2 (freeIff.not.1 restricted))]
  all_goals
    have isFree : ¬(!x.causes.isEmpty && decide (c ≠ .c0)) = true := fun h => (restricted_iff _ _).1 h (freeIff.1 isFree)
  · simp only [State.classifyUplink, if_neg legal, entry, session, if_neg unparked, if_neg own, if_neg isFree, dark]
  obtain rfl : blocks = blocksOf length := blocksEq
  refine ⟨fun full => exec_uplinkFrame_dropped ?_, fun room =>
    ⟨_, exec_uplinkFrame_admitted (f := s.uplinkRecord h x c k length) ?_, joinLink_eq .., fun j hj => joinLink_linkQueues_ne hj ..,
      joinLink_frames_self .., (joinLink_latch_self ..).trans (latchRaised_eq_or ..), fun b hb =>
      ⟨joinLink_frames_ne k (f := s.uplinkRecord h x c k length) hb s,
        joinLink_latch_ne k (f := s.uplinkRecord h x c k length) hb s⟩⟩⟩
  · simp only [State.classifyUplink, if_neg legal, entry, session, if_neg unparked, if_neg own, if_neg isFree, bound,
      if_pos full]
  · simp only [State.classifyUplink, if_neg legal, entry, session, if_neg unparked, if_neg own, if_neg isFree, bound,
      if_neg (Nat.not_lt.2 room)]

/-! ### DOWNLINK_FRAME (R99, R100) -/

/-- The frame record of an admitted downlink frame (R100). -/
def State.downlinkRecord (s : State) (h : Nat) (c : TrafficClass) (length : Nat) : Frame :=
  { direction := .down, session := h, cls := c, route := none, link := none, length := length, blocks := blocksOf length,
    arrival := s.now }

theorem exec_downlinkFrame_dropped {s : State} {k : LinkId} {a : BitVec 32} {c : TrafficClass} {length : Nat}
    {why : DownlinkDrop} (h : s.classifyDownlink k a c length = .error why) :
    exec (.downlinkFrame k a c length) s = .next ((countReceived k length s).count (.downlink why) 1) := by
  show execDownlinkFrame k a c length s = _
  have unread : (countReceived k length s).classifyDownlink k a c length = s.classifyDownlink k a c length := rfl
  simp only [execDownlinkFrame, unread, h]

theorem exec_downlinkFrame_admitted {s : State} {k : LinkId} {a : BitVec 32} {c : TrafficClass} {length : Nat}
    {f : Frame} (h : s.classifyDownlink k a c length = .ok f) :
    exec (.downlinkFrame k a c length) s = .next (joinPool f (countReceived k length s)) := by
  show execDownlinkFrame k a c length s = _
  have unread : (countReceived k length s).classifyDownlink k a c length = s.classifyDownlink k a c length := rfl
  simp only [execDownlinkFrame, unread, h]

theorem LinkState.carries_iff (x : LinkState) : x.carries = true ↔ x ∈ [.standby, .active, .retiring] := by
  cases x <;> simp [LinkState.carries]

/-- Settles O48: each case is a branch of `State.classifyDownlink`, and the last one is `joinPool`. -/
theorem downlinkFramesAreCheckedAndAdmitted : Obligations.DownlinkFramesAreCheckedAndAdmitted := by
  intro k address c length s u tables distinct hu drop dropIff
  obtain rfl : u = countReceived k length s := hu
  have dropped {why : DownlinkDrop} (h : s.classifyDownlink k address c length = .error why) : drop why :=
    (dropIff why).2 (exec_downlinkFrame_dropped h)
  refine ⟨fun deaf => dropped ?_, fun carries => ⟨fun bad => dropped ?_, fun low high => ⟨fun unknown => dropped ?_, ?_⟩⟩⟩
  · rw [← LinkState.carries_iff, Bool.not_eq_true] at deaf
    rw [State.classifyDownlink, if_pos deaf]
  all_goals
    have carries : ¬(s.link k).state.carries = false := by rw [Bool.not_eq_false, LinkState.carries_iff]; exact carries
  · rw [State.classifyDownlink, if_neg carries, if_pos ((legalLength_false_iff length).2 bad)]
  all_goals
    have legal : ¬legalLength length = false := by rw [legalLength_false_iff]; omega
  · simp only [State.classifyDownlink, if_neg carries, if_neg legal, State.byAddress_none tables unknown, ite_self]
  rintro h x session rfl
  have found : (if x.address = 0 then none else s.byAddress x.address) = some h := by
    rw [if_neg (distinct.1 h x session), State.byAddress_of_session tables distinct session]
  refine ⟨fun gone => dropped ?_, fun ⟨d, parked⟩ => dropped ?_, fun active free freeIff => ?_⟩
  · simp only [State.classifyDownlink, if_neg carries, if_neg legal, found, session, if_pos gone]
  · have closing : ¬x.phase.isClosing = true := by simp [parked, Phase.isClosing]
    simp only [State.classifyDownlink, if_neg carries, if_neg legal, found, session, if_neg closing,
      if_pos (x.phase.isParked_iff.2 ⟨d, parked⟩)]
  have closing : ¬x.phase.isClosing = true := by simp [active, Phase.isClosing]
  have parked : ¬x.phase.isParked = true := by simp [active, Phase.isParked]
  refine ⟨fun restricted => dropped ?_, fun isFree blocks blocksEq => ?_⟩
  · simp only [State.classifyDownlink, if_neg carries, if_neg legal, found, session, if_neg closing, if_neg parked,
      if_pos ((restricted_iff _ _).2 (freeIff.not.1 restricted))]
  have isFree : ¬(!x.causes.isEmpty && decide (c ≠ .c0)) = true := fun h => (restricted_iff _ _).1 h (freeIff.1 isFree)
  obtain rfl : blocks = blocksOf length := blocksEq
  refine ⟨fun full => dropped ?_, fun room => ?_⟩
  · simp only [State.classifyDownlink, if_neg carries, if_neg legal, found, session, if_neg closing, if_neg parked,
      if_neg isFree, if_pos full]
  · have admitted : s.classifyDownlink k x.address c length = .ok (s.downlinkRecord h c length) := by
      simp only [State.classifyDownlink, if_neg carries, if_neg legal, found, session, if_neg closing, if_neg parked,
        if_neg isFree, if_neg (Nat.not_lt.2 room)]
      rfl
    exact exec_downlinkFrame_admitted admitted

end Sys2Proof.Machine
end

section
/-! SUPPORT. Paths: which routes have frames on which links, what the frame switch's removals leave of the queues and latches,
and what the route unit may leave unsound in the midst of an event. -/

namespace Sys2Proof.Machine

/-! ### Counts of frames and routes, read as existence -/

/-- A route has a frame queued on a link. -/
def State.carries (s : State) (r : RouteId) (k : LinkId) : Prop :=
  ∃ c, ∃ f ∈ (s.linkQueues k).frames.get c, f.route = some r

/-- A link has a frame queued on it. -/
def State.loaded (s : State) (k : LinkId) : Prop := ∃ c, (s.linkQueues k).frames.get c ≠ []

/-- A route drains on a link. -/
def State.drainsOn (s : State) (r : RouteId) (k : LinkId) : Prop := (s.route r).draining.map (·.1) = some k

/-- Some route is bound to a link. -/
def State.serves (s : State) (k : LinkId) : Prop := ∃ r, (s.route r).bound = some k

theorem State.carries.loaded {s : State} {r : RouteId} {k : LinkId} (h : s.carries r k) : s.loaded k := by
  obtain ⟨c, f, hf, -⟩ := h
  exact ⟨c, fun e => by rw [e] at hf; cases hf⟩

theorem countFrames_eq_zero (q : PerClass (List Frame)) (test : Frame → Bool) :
    countFrames q test = 0 ↔ ∀ c, ∀ f ∈ q.get c, test f = false := by
  simp only [countFrames, Nat.add_eq_zero_iff, List.countP_eq_zero, Bool.not_eq_true]
  constructor
  · rintro ⟨⟨⟨h0, h1⟩, h2⟩, h3⟩ (_ | _ | _ | _)
    exacts [h0, h1, h2, h3]
  · intro h
    exact ⟨⟨⟨h .c0, h .c1⟩, h .c2⟩, h .c3⟩

theorem State.routeFrames_eq_zero (s : State) (r : RouteId) (k : LinkId) : s.routeFrames r k = 0 ↔ ¬s.carries r k := by
  simp [State.routeFrames, countFrames_eq_zero, State.carries]

theorem State.routeFrames_pos (s : State) (r : RouteId) (k : LinkId) : 0 < s.routeFrames r k ↔ s.carries r k := by
  rw [Nat.pos_iff_ne_zero, Ne, s.routeFrames_eq_zero, not_not]

theorem State.queuedOn_eq_zero (s : State) (k : LinkId) : s.queuedOn k = 0 ↔ ¬s.loaded k := by
  simp [State.queuedOn, countFrames_eq_zero, State.loaded, List.eq_nil_iff_forall_not_mem]

theorem mem_allRoutes (r : RouteId) : r ∈ allRoutes := by revert r; decide

theorem mem_allLinks (k : LinkId) : k ∈ allLinks := by revert k; decide

theorem State.boundRoutes_eq_zero (s : State) (k : LinkId) : s.boundRoutes k = 0 ↔ ¬s.serves k := by
  simp [State.boundRoutes, List.countP_eq_zero, State.serves, mem_allRoutes]

/-! ### Reading records after a write -/

theorem State.link_setLink (s : State) (j k : LinkId) (x : Link) :
    (s.setLink k x).link j = if j = k then x else s.link j := by
  split
  · subst j; simp
  · exact s.link_setLink_ne ‹_› x

theorem State.link_modifyLink (s : State) (j k : LinkId) (f : Link → Link) :
    (s.modifyLink k f).link j = if j = k then f (s.link k) else s.link j := s.link_setLink j k _

theorem State.route_setRoute (s : State) (q r : RouteId) (x : Route) :
    (s.setRoute r x).route q = if q = r then x else s.route q := by
  split
  · subst q; simp
  · exact s.route_setRoute_ne ‹_› x

theorem State.route_modifyRoute (s : State) (q r : RouteId) (f : Route → Route) :
    (s.modifyRoute r f).route q = if q = r then f (s.route r) else s.route q := s.route_setRoute q r _

theorem State.linkQueues_setLinkQueues (s : State) (j k : LinkId) (x : LinkQueues) :
    (s.setLinkQueues k x).linkQueues j = if j = k then x else s.linkQueues j := by
  split
  · subst j; simp
  · exact s.linkQueues_setLinkQueues_ne ‹_› x

/-! ### Frames leaving a link (R93, R95, R107) -/

theorem occupancy_sublist {a b : List Frame} (h : a.Sublist b) : occupancy a ≤ occupancy b :=
  (h.map _).sum_le_sum fun _ _ => Nat.zero_le _

/-- The hold latch of one class queue follows its occupancy (R95), the low mark being below the high one. -/
def LatchFollows (s : State) (k : LinkId) (c : TrafficClass) : Prop :=
  ((s.link k).marks.get c).low < ((s.link k).marks.get c).high
    ∧ ((s.linkQueues k).latch.get c = true → ((s.link k).marks.get c).low < occupancy ((s.linkQueues k).frames.get c))
    ∧ (((s.link k).marks.get c).high ≤ occupancy ((s.linkQueues k).frames.get c) → (s.linkQueues k).latch.get c = true)

theorem leaveLink_frames (k j : LinkId) (c b : TrafficClass) (new : List Frame) (s : State) :
    ((leaveLink k c new s).linkQueues j).frames.get b
      = if j = k ∧ b = c then new else (s.linkQueues j).frames.get b := by
  simp only [leaveLink, State.linkQueues_setLinkQueues]
  by_cases hj : j = k
  · subst hj
    by_cases hb : b = c
    · subst hb; simp
    · simp [hb, PerClass.get_set_ne]
  · simp [hj]

/-- A latch that follows the occupancy follows it after frames have left (R95). -/
theorem LatchFollows.leaveLink {k j : LinkId} {c b : TrafficClass} {new : List Frame} {s : State}
    (shorter : new.Sublist ((s.linkQueues k).frames.get c)) (h : LatchFollows s j b) :
    LatchFollows (leaveLink k c new s) j b := by
  unfold LatchFollows at h ⊢
  rw [leaveLink_frames]
  have link : (Machine.leaveLink k c new s).link j = s.link j := rfl
  rw [link]
  by_cases here : j = k ∧ b = c
  · obtain ⟨rfl, rfl⟩ := here
    have le := occupancy_sublist shorter
    obtain ⟨marks, low, high⟩ := h
    simp only [and_self, if_true, Machine.leaveLink, State.linkQueues_setLinkQueues_self, PerClass.get_set_self, latchLowered]
    split
    · exact ⟨marks, nofun, fun e => by omega⟩
    · exact ⟨marks, fun e => by have := low e; omega, fun e => high (e.trans le)⟩
  · rw [if_neg here]
    have latch : ((Machine.leaveLink k c new s).linkQueues j).latch.get b = (s.linkQueues j).latch.get b := by
      simp only [Machine.leaveLink, State.linkQueues_setLinkQueues]
      by_cases hj : j = k
      · subst hj
        simp [PerClass.get_set_ne, show b ≠ c from fun e => here ⟨rfl, e⟩]
      · simp [hj]
    rwa [latch]

end Sys2Proof.Machine
end

section
/-! SUPPORT. What moves of the route unit and the frame switch may change of the paths, and the law of the paths with the
places at which it may be open in the midst of a move. -/

namespace Sys2Proof.Machine

/-! ### Moves -/

/-- What every move of the route unit, the link manager's hand-ons and the frame switch's removals keeps of the paths: frames
only leave, latches follow, no link becomes ready, begins to leave use or enters or leaves FAILED, and a route is bound to a link,
waits for one or drains on one only as it did, or as it may. -/
structure Moved (s t : State) : Prop where
  zone : t.zone = s.zone
  permitted : ∀ r, (t.route r).permitted = (s.route r).permitted
  share : ∀ k, (t.link k).share = (s.link k).share
  frames : ∀ k c, ((t.linkQueues k).frames.get c).Sublist ((s.linkQueues k).frames.get c)
  latch : ∀ k c, LatchFollows s k c → LatchFollows t k c
  ready : ∀ k, t.ready k = true → s.ready k = true
  retiring : ∀ k, (t.link k).state = .retiring → (s.link k).state = .retiring
  failed : ∀ k, (t.link k).state = .failed ↔ (s.link k).state = .failed
  bound : ∀ r k, (t.route r).bound = some k → (s.route r).bound = some k ∨ s.ready k = true ∧ s.allows r k
  waits : ∀ r k, (t.route r).waitsFor k = true → (s.route r).waitsFor k = true ∨ s.allows r k
  drains : ∀ r k, t.drainsOn r k → s.drainsOn r k ∨ s.carries r k

theorem State.allows_congr {s t : State} (zone : t.zone = s.zone) {r : RouteId}
    (permitted : (t.route r).permitted = (s.route r).permitted) (k : LinkId) : t.allows r k ↔ s.allows r k := by
  simp only [State.allows, State.permits, State.usable, State.segment, State.segmentIndex, zone, permitted]

namespace Moved

theorem allows {s t : State} (m : Moved s t) (r : RouteId) (k : LinkId) : t.allows r k ↔ s.allows r k :=
  State.allows_congr m.zone (m.permitted r) k

theorem carries {s t : State} (m : Moved s t) {r : RouteId} {k : LinkId} (h : t.carries r k) : s.carries r k := by
  obtain ⟨c, f, hf, route⟩ := h
  exact ⟨c, f, (m.frames k c).subset hf, route⟩

theorem loaded {s t : State} (m : Moved s t) {k : LinkId} (h : t.loaded k) : s.loaded k := by
  obtain ⟨c, hc⟩ := h
  exact ⟨c, fun e => hc (List.sublist_nil.1 (e ▸ m.frames k c))⟩

/-- A move between states that agree on links, routes, queues and zone. -/
theorem of_same {s t : State} (links : t.links = s.links) (routes : t.routes = s.routes) (queues : t.queues = s.queues)
    (zone : t.zone = s.zone) : Moved s t := by
  have link : ∀ k, t.link k = s.link k := fun k => by rw [State.link, State.link, links]
  have route : ∀ r, t.route r = s.route r := fun r => by rw [State.route, State.route, routes]
  have queue : ∀ k, t.linkQueues k = s.linkQueues k := fun k => by rw [State.linkQueues, State.linkQueues, queues]
  constructor
  case zone => exact zone
  case latch => intro k c h; simpa only [LatchFollows, link, queue] using h
  all_goals simp +contextual [State.ready, State.drainsOn, link, route, queue]

theorem refl (s : State) : Moved s s := of_same rfl rfl rfl rfl

theorem trans {s t u : State} (m : Moved s t) (n : Moved t u) : Moved s u where
  zone := n.zone.trans m.zone
  permitted r := (n.permitted r).trans (m.permitted r)
  share k := (n.share k).trans (m.share k)
  frames k c := (n.frames k c).trans (m.frames k c)
  latch k c h := n.latch k c (m.latch k c h)
  ready k h := m.ready k (n.ready k h)
  retiring k h := m.retiring k (n.retiring k h)
  failed k := (n.failed k).trans (m.failed k)
  bound r k h := by
    rcases n.bound r k h with h | ⟨hr, ha⟩
    · exact m.bound r k h
    · exact .inr ⟨m.ready k hr, (m.allows r k).1 ha⟩
  waits r k h := by
    rcases n.waits r k h with h | ha
    · exact m.waits r k h
    · exact .inr ((m.allows r k).1 ha)
  drains r k h := by
    rcases n.drains r k h with h | hc
    · exact m.drains r k h
    · exact .inr (m.carries hc)

/-- A route's record is written: what it is bound to, waits for and drains on comes from before or is allowed. -/
theorem setRoute (s : State) (r : RouteId) (x : Route) (permitted : x.permitted = (s.route r).permitted)
    (bound : ∀ k, x.bound = some k → (s.route r).bound = some k ∨ s.ready k = true ∧ s.allows r k)
    (waits : ∀ k, x.waitsFor k = true → (s.route r).waitsFor k = true ∨ s.allows r k)
    (drains : ∀ k, x.draining.map (·.1) = some k → s.drainsOn r k ∨ s.carries r k) : Moved s (s.setRoute r x) where
  zone := rfl
  permitted q := by rw [State.route_setRoute]; split; exacts [by subst q; exact permitted, rfl]
  share _ := rfl
  frames _ _ := List.Sublist.refl _
  latch _ _ h := h
  ready _ h := h
  retiring _ h := h
  failed _ := Iff.rfl
  bound q k h := by
    rw [State.route_setRoute] at h
    split at h
    exacts [by subst q; exact bound k h, .inl h]
  waits q k h := by
    rw [State.route_setRoute] at h
    split at h
    exacts [by subst q; exact waits k h, .inl h]
  drains q k h := by
    rw [State.drainsOn, State.route_setRoute] at h
    split at h
    exacts [by subst q; exact drains k h, .inl h]

/-- A link's record is written, its share and marks kept: it does not become ready, RETIRING or FAILED. -/
theorem setLink (s : State) (k : LinkId) (l : Link) (share : l.share = (s.link k).share) (marks : l.marks = (s.link k).marks)
    (ready : l.state.ready = true → s.ready k = true) (retiring : l.state = .retiring → (s.link k).state = .retiring)
    (failed : l.state = .failed ↔ (s.link k).state = .failed) : Moved s (s.setLink k l) where
  zone := rfl
  permitted _ := rfl
  share j := by rw [State.link_setLink]; split; exacts [by subst j; exact share, rfl]
  frames _ _ := List.Sublist.refl _
  latch j c h := by
    have same : ((s.setLink k l).link j).marks = (s.link j).marks := by
      rw [State.link_setLink]; split; exacts [by subst j; exact marks, rfl]
    unfold LatchFollows
    rw [same]
    exact h
  ready j h := by
    rw [State.ready, State.link_setLink] at h
    split at h
    exacts [by subst j; exact ready h, h]
  retiring j h := by
    rw [State.link_setLink] at h
    split at h
    exacts [by subst j; exact retiring h, h]
  failed j := by
    rw [State.link_setLink]
    split
    exacts [by subst j; exact failed, Iff.rfl]
  bound _ _ h := .inl h
  waits _ _ h := .inl h
  drains _ _ h := .inl h

theorem leaveLink (k : LinkId) (c : TrafficClass) {new : List Frame} {s : State}
    (shorter : new.Sublist ((s.linkQueues k).frames.get c)) : Moved s (leaveLink k c new s) where
  zone := rfl
  permitted _ := rfl
  share _ := rfl
  frames j b := by
    rw [leaveLink_frames]
    split
    · next here => obtain ⟨rfl, rfl⟩ := here; exact shorter
    · exact List.Sublist.refl _
  latch _ _ h := h.leaveLink shorter
  ready _ h := h
  retiring _ h := h
  failed _ := Iff.rfl
  bound _ _ h := .inl h
  waits _ _ h := .inl h
  drains _ _ h := .inl h

theorem raise (s : State) (p : Port) (k : NoticeKind) (n : Nat) : Moved s (s.raise p k n) := of_same rfl rfl rfl rfl
theorem count (s : State) (c : Counter) (n : Nat) : Moved s (s.count c n) := of_same rfl rfl rfl rfl

end Moved

/-! ### The law of the paths, and where it may be open -/

/-- A route may still be bound to a link in this state in the midst of an event: the link is in use, or on its way out. -/
def LinkState.bindable : LinkState → Bool
  | .active | .retiring | .failed => true
  | .unconfigured | .off | .warming | .standby => false

/-- The law of the paths in the midst of an event, with its holes: while route `r` is at work its frames on the links of `free`
need not be on a path, where it is `bare` its drain may have no frame left, and the links of `idle` have yet to be judged. -/
structure PathsBut (r : RouteId) (free : LinkId → Prop) (bare : Prop) (idle : LinkId → Prop) (s : State) : Prop where
  held : ∀ q k, (s.route q).bound = some k → (s.link k).state.bindable = true
  drained : ∀ q k, s.drainsOn q k → s.carries q k ∨ (s.link k).state = .failed ∨ (q = r ∧ bare)
  carried : ∀ q k, s.carries q k → (s.route q).bound = some k ∨ s.drainsOn q k ∨ (q = r ∧ free k)
  loaded : ∀ k, s.loaded k → (s.link k).state = .active ∨ (s.link k).state = .retiring
  used : ∀ k, (s.link k).state = .active → s.serves k ∨ s.loaded k ∨ idle k

/-- No link. -/
def noLink : LinkId → Prop := fun _ => False

/-- The law of the paths in the midst of an event, without a hole. -/
def PathsSound (s : State) : Prop := PathsBut 0 noLink False noLink s

theorem PathsBut.sound {r : RouteId} {s : State} (p : PathsBut r noLink False noLink s) : PathsSound s where
  held := p.held
  drained q k h := by simpa using p.drained q k h
  carried q k h := by simpa [noLink] using p.carried q k h
  loaded := p.loaded
  used := p.used

theorem PathsSound.but {s : State} (p : PathsSound s) (r : RouteId) : PathsBut r noLink False noLink s where
  held := p.held
  drained q k h := by simpa using p.drained q k h
  carried q k h := by simpa [noLink] using p.carried q k h
  loaded := p.loaded
  used := p.used

namespace PathsBut

variable {r : RouteId} {free free' : LinkId → Prop} {bare bare' : Prop} {idle idle' : LinkId → Prop} {s t : State}

/-- The law speaks of the links' states, of what the routes are bound to and drain on, and of the queues. -/
theorem congr (p : PathsBut r free bare idle s) (state : ∀ k, (t.link k).state = (s.link k).state)
    (bound : ∀ q, (t.route q).bound = (s.route q).bound) (draining : ∀ q, (t.route q).draining = (s.route q).draining)
    (queues : t.queues = s.queues) : PathsBut r free bare idle t := by
  have queue : ∀ k, t.linkQueues k = s.linkQueues k := fun k => by rw [State.linkQueues, State.linkQueues, queues]
  constructor
  case held => simpa only [bound, state] using p.held
  case drained => simpa only [State.drainsOn, State.carries, draining, queue, state] using p.drained
  case carried => simpa only [State.drainsOn, State.carries, draining, queue, bound] using p.carried
  case loaded => simpa only [State.loaded, queue, state] using p.loaded
  case used => simpa only [State.loaded, State.serves, queue, state, bound] using p.used

/-- Holes may be thought wider than they are. -/
theorem mono (p : PathsBut r free bare idle s) (hfree : ∀ k, free k → free' k) (hbare : bare → bare')
    (hidle : ∀ k, idle k → idle' k) : PathsBut r free' bare' idle' s where
  held := p.held
  drained q k h := (p.drained q k h).imp_right (.imp_right (.imp_right hbare))
  carried q k h := (p.carried q k h).imp_right (.imp_right (.imp_right (hfree k)))
  loaded := p.loaded
  used k h := (p.used k h).imp_right (.imp_right (hidle k))

/-- A route's record is written while that route is at work. -/
theorem setRoute (p : PathsBut r free bare idle s) (x : Route)
    (held : ∀ k, x.bound = some k → (s.link k).state.bindable = true)
    (drained : ∀ k, x.draining.map (·.1) = some k → s.carries r k ∨ (s.link k).state = .failed ∨ bare')
    (carried : ∀ k, s.carries r k → x.bound = some k ∨ x.draining.map (·.1) = some k ∨ free' k)
    (left : ∀ k, idle k ∨ (s.route r).bound = some k → idle' k ∨ x.bound = some k) :
    PathsBut r free' bare' idle' (s.setRoute r x) where
  held q k h := by
    rw [State.route_setRoute] at h
    split at h
    exacts [held k h, p.held q k h]
  drained q k h := by
    rw [State.drainsOn, State.route_setRoute] at h
    split at h
    · next here => subst q; exact (drained k h).imp_right (.imp_right fun b => ⟨rfl, b⟩)
    · next ne => exact (p.drained q k h).imp_right (.imp_right fun b => absurd b.1 ne)
  carried q k h := by
    rw [State.drainsOn, State.route_setRoute]
    split
    · next here => subst q; exact (carried k h).imp_right (.imp_right fun b => ⟨rfl, b⟩)
    · next ne => exact (p.carried q k h).imp_right (.imp_right fun b => absurd b.1 ne)
  loaded := p.loaded
  used k h := by
    have mine (h : idle k ∨ (s.route r).bound = some k) : (s.setRoute r x).serves k ∨ s.loaded k ∨ idle' k := by
      rcases left k h with h | h
      · exact .inr (.inr h)
      · exact .inl ⟨r, by rw [State.route_setRoute_self]; exact h⟩
    rcases p.used k h with ⟨q, hq⟩ | h | h
    · by_cases ne : q = r
      · subst q; exact mine (.inr hq)
      · exact .inl ⟨q, by rwa [s.route_setRoute_ne ne]⟩
    · exact .inr (.inl h)
    · exact mine (.inl h)

/-- A link's record is written. -/
theorem setLink (p : PathsBut r free bare idle s) (k : LinkId) (l : Link)
    (held : s.serves k → l.state.bindable = true)
    (failed : ∀ q, s.drainsOn q k → (s.link k).state = .failed → l.state = .failed)
    (loaded : s.loaded k → l.state = .active ∨ l.state = .retiring)
    (used : l.state = .active → s.serves k ∨ s.loaded k ∨ idle' k)
    (others : ∀ j, j ≠ k → idle j → idle' j) : PathsBut r free bare idle' (s.setLink k l) where
  held q j h := by
    rw [State.link_setLink]
    split
    · next here => subst j; exact held ⟨q, h⟩
    · exact p.held q j h
  drained q j h := by
    refine (p.drained q j h).imp_right (.imp_left fun e => ?_)
    rw [State.link_setLink]
    split
    · next here => subst j; exact failed q h e
    · exact e
  carried := p.carried
  loaded j h := by
    rw [State.link_setLink]
    split
    · next here => subst j; exact loaded h
    · exact p.loaded j h
  used j h := by
    rw [State.link_setLink] at h
    split at h
    · next here => subst j; exact used h
    · next ne => exact (p.used j h).imp_right (.imp_right (others j ne))

theorem raise (p : PathsBut r free bare idle s) (o : Port) (k : NoticeKind) (n : Nat) :
    PathsBut r free bare idle (s.raise o k n) := p.congr (fun _ => rfl) (fun _ => rfl) (fun _ => rfl) rfl

end PathsBut

/-! ### Settle candidates (R60) -/

/-- Nothing of links, queues and zone differs, and of the routes nothing but the settle candidates. -/
structure OnlySettle (s t : State) : Prop where
  links : t.links = s.links
  queues : t.queues = s.queues
  zone : t.zone = s.zone
  route : ∀ q, ∃ x, t.route q = { s.route q with settle := x }

namespace OnlySettle

variable {s t u : State}

theorem refl (s : State) : OnlySettle s s := ⟨rfl, rfl, rfl, fun _ => ⟨_, rfl⟩⟩

theorem trans (m : OnlySettle s t) (n : OnlySettle t u) : OnlySettle s u where
  links := n.links.trans m.links
  queues := n.queues.trans m.queues
  zone := n.zone.trans m.zone
  route q := by
    obtain ⟨x, hx⟩ := m.route q
    obtain ⟨y, hy⟩ := n.route q
    exact ⟨y, by rw [hy, hx]⟩

theorem setRoute (s : State) (r : RouteId) (x : Option (LinkId × Nat)) :
    OnlySettle s (s.setRoute r { s.route r with settle := x }) where
  links := rfl
  queues := rfl
  zone := rfl
  route q := by
    rw [State.route_setRoute]
    split
    · subst q; exact ⟨x, rfl⟩
    · exact ⟨_, rfl⟩

theorem bound (m : OnlySettle s t) (q : RouteId) : (t.route q).bound = (s.route q).bound := by
  obtain ⟨x, h⟩ := m.route q; rw [h]
theorem draining (m : OnlySettle s t) (q : RouteId) : (t.route q).draining = (s.route q).draining := by
  obtain ⟨x, h⟩ := m.route q; rw [h]
theorem swap (m : OnlySettle s t) (q : RouteId) : (t.route q).swap = (s.route q).swap := by
  obtain ⟨x, h⟩ := m.route q; rw [h]
theorem permitted (m : OnlySettle s t) (q : RouteId) : (t.route q).permitted = (s.route q).permitted := by
  obtain ⟨x, h⟩ := m.route q; rw [h]
theorem link (m : OnlySettle s t) (k : LinkId) : t.link k = s.link k := by rw [State.link, State.link, m.links]
theorem linkQueues (m : OnlySettle s t) (k : LinkId) : t.linkQueues k = s.linkQueues k := by
  rw [State.linkQueues, State.linkQueues, m.queues]

theorem settleEvaluate (r : RouteId) (s : State) : OnlySettle s (settleEvaluate r s) := by
  unfold Machine.settleEvaluate
  dsimp only
  split
  · split
    · exact setRoute ..
    · split
      · exact refl s
      · exact setRoute ..
  · exact setRoute ..

theorem settleAll (s : State) : OnlySettle s (settleAll s) := by
  unfold Machine.settleAll
  split
  · exact refl s
  · refine foldl_rel refl trans (fun s r => ?_) _ s
    split
    · exact settleEvaluate r s
    · exact refl s

theorem moved (m : OnlySettle s t) : Moved s t where
  zone := m.zone
  permitted := m.permitted
  share k := by rw [m.link]
  frames k c := by rw [m.linkQueues]
  latch k c h := by simpa only [LatchFollows, m.link, m.linkQueues] using h
  ready k h := by simpa only [State.ready, m.link] using h
  retiring k h := by rwa [m.link] at h
  failed k := by rw [m.link]
  bound q k h := .inl (by rwa [m.bound] at h)
  waits q k h := .inl (by simpa only [Route.waitsFor, m.swap] using h)
  drains q k h := .inl (by simpa only [State.drainsOn, m.draining] using h)

theorem pathsBut (m : OnlySettle s t) {r : RouteId} {free : LinkId → Prop} {bare : Prop} {idle : LinkId → Prop}
    (p : PathsBut r free bare idle s) : PathsBut r free bare idle t :=
  p.congr (fun k => by rw [m.link]) m.bound m.draining m.queues

end OnlySettle

/-! ### Links judged after a departure (R24, R31) -/

/-- What judging link `k` may do: nothing, to a link that is in use if it is ACTIVE; or an ACTIVE link out of use becomes STANDBY,
or a RETIRING one OFF, and settle candidates are evaluated. -/
inductive Judged (k : LinkId) (s : State) : State → Prop
  | kept (used : (s.link k).state = .active → s.serves k ∨ s.loaded k) : Judged k s s
  | rested (unserved : ¬s.serves k) (unloaded : ¬s.loaded k) (was : (s.link k).state = .active) :
      Judged k s (enterStandby k s)
  | retired (unserved : ¬s.serves k) (unloaded : ¬s.loaded k) (was : (s.link k).state = .retiring) {t : State}
      (settled : OnlySettle (enterOff k s) t) : Judged k s t

theorem judgeUnbound_judged (k : LinkId) (s : State) : Judged k s (judgeUnbound k s) := by
  unfold judgeUnbound
  split
  all_goals rename_i h; rw [s.queuedOn_eq_zero, s.boundRoutes_eq_zero] at h
  · exact .rested h.2.1 h.1 h.2.2
  · exact .kept fun active => by by_contra out; exact h ⟨fun l => out (.inr l), fun l => out (.inl l), active⟩

theorem judgeIdle_judged (k : LinkId) (s : State) : Judged k s (judgeIdle k s) := by
  unfold judgeIdle
  split
  all_goals rename_i h; rw [s.queuedOn_eq_zero, s.boundRoutes_eq_zero] at h
  · split
    · next active => exact .rested h.2 h.1 active
    · next retiring => exact .retired h.2 h.1 retiring (.settleAll _)
    all_goals next other => exact .kept fun active => by rw [other] at active; cases active
  · exact .kept fun active => by by_contra out; exact h ⟨fun l => out (.inr l), fun l => out (.inl l)⟩

namespace Judged

variable {k : LinkId} {s t : State}

theorem bound (j : Judged k s t) (q : RouteId) : (t.route q).bound = (s.route q).bound := by
  cases j with
  | kept => rfl
  | rested => rfl
  | retired _ _ _ settled => exact settled.bound q

theorem draining (j : Judged k s t) (q : RouteId) : (t.route q).draining = (s.route q).draining := by
  cases j with
  | kept => rfl
  | rested => rfl
  | retired _ _ _ settled => exact settled.draining q

theorem swap (j : Judged k s t) (q : RouteId) : (t.route q).swap = (s.route q).swap := by
  cases j with
  | kept => rfl
  | rested => rfl
  | retired _ _ _ settled => exact settled.swap q

theorem linkQueues (j : Judged k s t) (i : LinkId) : t.linkQueues i = s.linkQueues i := by
  cases j with
  | kept => rfl
  | rested => rfl
  | retired _ _ _ settled => exact settled.linkQueues i

theorem link_ne (j : Judged k s t) {i : LinkId} (ne : i ≠ k) : t.link i = s.link i := by
  cases j with
  | kept => rfl
  | rested => exact s.link_setLink_ne ne _
  | retired _ _ _ settled => exact (settled.link i).trans (s.link_setLink_ne ne _)

theorem moved (j : Judged k s t) : Moved s t := by
  cases j with
  | kept => exact .refl s
  | rested _ _ was =>
    exact .setLink s k _ rfl rfl (fun _ => by rw [State.ready, was]; rfl) nofun (by rw [was]; exact iff_of_false nofun nofun)
  | retired _ _ was settled =>
    have off : Moved s (enterOff k s) := .setLink s k _ rfl rfl nofun nofun (by rw [was]; exact iff_of_false nofun nofun)
    exact off.trans settled.moved

/-- Judging a link closes the hole of a link yet to be judged. -/
theorem pathsBut (j : Judged k s t) {r : RouteId} {free : LinkId → Prop} {bare : Prop} {idle idle' : LinkId → Prop}
    (others : ∀ i, i ≠ k → idle i → idle' i) (p : PathsBut r free bare idle s) : PathsBut r free bare idle' t := by
  cases j with
  | kept used =>
    refine { p with used := fun i active => ?_ }
    by_cases here : i = k
    · subst i; exact (used active).imp_right .inl
    · exact (p.used i active).imp_right (.imp_right (others i here))
  | rested unserved unloaded was =>
    exact p.setLink k _ (fun h => absurd h unserved) (fun _ _ h => by rw [was] at h; cases h) (fun h => absurd h unloaded) nofun others
  | retired unserved unloaded was settled =>
    exact settled.pathsBut (p.setLink k _ (fun h => absurd h unserved) (fun _ _ h => by rw [was] at h; cases h)
      (fun h => absurd h unloaded) nofun others)

end Judged

/-! ### Frames discarded on a link (R107) -/

theorem discardClass_frames (k j : LinkId) (gone : Frame → Bool) (n : TrafficClass → Counter) (c b : TrafficClass) (s : State) :
    ((discardClass k gone n c s).linkQueues j).frames.get b
      = if j = k ∧ b = c then ((s.linkQueues k).frames.get c).filter (!gone ·) else (s.linkQueues j).frames.get b := by
  unfold discardClass
  dsimp only
  split
  · next none =>
    split
    · next here =>
      obtain ⟨rfl, rfl⟩ := here
      refine (List.filter_eq_self.2 fun f hf => ?_).symm
      simpa using List.countP_eq_zero.1 none f hf
    · rfl
  · exact leaveLink_frames ..

theorem discardClass_moved (k : LinkId) (gone : Frame → Bool) (n : TrafficClass → Counter) (c : TrafficClass) (s : State) :
    Moved s (discardClass k gone n c s) := by
  unfold discardClass
  dsimp only
  split
  · exact .refl s
  · exact (Moved.leaveLink k c List.filter_sublist).trans (.count ..)

theorem discardOnLink_moved (k : LinkId) (gone : Frame → Bool) (n : TrafficClass → Counter) (s : State) :
    Moved s (discardOnLink k gone n s) :=
  foldl_rel .refl .trans (fun s c => discardClass_moved k gone n c s) _ s

/-- After a discard the link's class queues hold the frames that do not meet the test, and other links hold what they held. -/
theorem discardOnLink_frames (k j : LinkId) (gone : Frame → Bool) (n : TrafficClass → Counter) (b : TrafficClass) (s : State) :
    ((discardOnLink k gone n s).linkQueues j).frames.get b
      = if j = k then ((s.linkQueues k).frames.get b).filter (!gone ·) else (s.linkQueues j).frames.get b := by
  simp only [discardOnLink, allClasses, List.foldl, discardClass_frames]
  by_cases here : j = k
  · subst j; cases b <;> simp
  · simp [here]

theorem discardClass_links (k : LinkId) (gone : Frame → Bool) (n : TrafficClass → Counter) (c : TrafficClass) (s : State) :
    (discardClass k gone n c s).links = s.links ∧ (discardClass k gone n c s).routes = s.routes := by
  unfold discardClass
  dsimp only
  split <;> exact ⟨rfl, rfl⟩

theorem discardOnLink_links (k : LinkId) (gone : Frame → Bool) (n : TrafficClass → Counter) (s : State) :
    (discardOnLink k gone n s).links = s.links ∧ (discardOnLink k gone n s).routes = s.routes :=
  foldl_rel (R := fun s t : State => t.links = s.links ∧ t.routes = s.routes) (fun _ => ⟨rfl, rfl⟩)
    (fun h k => ⟨k.1.trans h.1, k.2.trans h.2⟩) (fun s c => discardClass_links k gone n c s) _ s

end Sys2Proof.Machine
end

section
/-! SUPPORT. The moves of one route, each of which leaves the paths sound: a drain ended or superseded, a release, a cutover, a
link left (03 sections 4.5 to 4.7). -/

namespace Sys2Proof.Machine

/-- A move that leaves the paths sound. -/
structure SoundMove (s t : State) : Prop where
  sound : PathsSound t
  moved : Moved s t

theorem SoundMove.refl {s : State} (p : PathsSound s) : SoundMove s s := ⟨p, .refl s⟩

theorem SoundMove.trans {s t u : State} (m : SoundMove s t) (n : SoundMove t u) : SoundMove s u :=
  ⟨n.sound, m.moved.trans n.moved⟩

theorem OnlySettle.soundMove {s t : State} (m : OnlySettle s t) (p : PathsSound s) : SoundMove s t :=
  ⟨m.pathsBut p, m.moved⟩

/-- A fold over moves that leave the paths sound. -/
theorem SoundMove.fold {β : Type} {f : State → β → State} (h : ∀ s x, PathsSound s → SoundMove s (f s x)) (l : List β) :
    ∀ s, PathsSound s → SoundMove s (l.foldl f s) := by
  induction l with
  | nil => exact fun s p => .refl p
  | cons x l ih => exact fun s p => (h s x p).trans (ih _ (h s x p).sound)

/-- A route's record is written, its bound and draining links kept. -/
theorem PathsSound.setRoute {s : State} (p : PathsSound s) (r : RouteId) (x : Route)
    (permitted : x.permitted = (s.route r).permitted) (bound : x.bound = (s.route r).bound)
    (draining : x.draining = (s.route r).draining)
    (waits : ∀ k, x.waitsFor k = true → (s.route r).waitsFor k = true ∨ s.allows r k) : SoundMove s (s.setRoute r x) where
  moved := .setRoute s r x permitted (fun k h => .inl (bound ▸ h)) waits (fun k h => .inl (by rwa [State.drainsOn, ← draining]))
  sound := by
    refine ((p.but r).setRoute x (fun k h => p.held r k (bound ▸ h)) (fun k h => ?_) (fun k h => ?_) (fun k h => ?_)).sound
    · exact (p.but r).drained r k (by rwa [State.drainsOn, ← draining]) |>.imp_right (.imp_right (·.2))
    · rw [bound, draining]
      exact ((p.but r).carried r k h).imp_right (.imp_right (·.2))
    · rw [bound]
      exact h.imp_left False.elim

/-! ### A drain superseded (R45, R107) -/

/-- What discarding a route's frames on a link leaves: its frames there are gone and no others, and the link has been judged. -/
structure Superseded (r : RouteId) (d : LinkId) (s t : State) : Prop where
  moved : Moved s t
  bound : ∀ q, (t.route q).bound = (s.route q).bound
  draining : ∀ q, (t.route q).draining = (s.route q).draining
  link_ne : ∀ j, j ≠ d → t.link j = s.link j
  carries : ∀ q j, t.carries q j ↔ s.carries q j ∧ ¬(q = r ∧ j = d)
  paths : ∀ free idle, PathsBut r free False idle s → PathsBut r (fun j => free j ∧ j ≠ d) (s.drainsOn r d) idle t

theorem carries_discardOnLink (r : RouteId) (d : LinkId) (n : TrafficClass → Counter) (s : State) (q : RouteId) (j : LinkId) :
    (discardOnLink d (fun f => f.route = some r) n s).carries q j ↔ s.carries q j ∧ ¬(q = r ∧ j = d) := by
  simp only [State.carries, discardOnLink_frames]
  by_cases here : j = d
  · subst j
    simp only [if_true, List.mem_filter, and_true]
    constructor
    · rintro ⟨c, f, ⟨hf, other⟩, route⟩
      exact ⟨⟨c, f, hf, route⟩, fun e => by simp [route, e] at other⟩
    · rintro ⟨⟨c, f, hf, route⟩, other⟩
      exact ⟨c, f, ⟨hf, by simpa [route] using other⟩, route⟩
  · simp [here]

theorem loaded_discardOnLink_ne {d j : LinkId} (ne : j ≠ d) (gone : Frame → Bool) (n : TrafficClass → Counter) (s : State) :
    (discardOnLink d gone n s).loaded j ↔ s.loaded j := by
  simp only [State.loaded, discardOnLink_frames, if_neg ne]

theorem drainDiscard_superseded (r : RouteId) (d : LinkId) (s : State) : Superseded r d s (drainDiscard r d s) := by
  obtain ⟨m, hm⟩ : ∃ m, m = discardOnLink d (fun f => f.route = some r) (.drain d) s := ⟨_, rfl⟩
  have links := discardOnLink_links d (fun f => f.route = some r) (.drain d) s
  have moved := discardOnLink_moved d (fun f => f.route = some r) (.drain d) s
  have carries := carries_discardOnLink r d (.drain d) s
  have loaded_ne := fun j ne => loaded_discardOnLink_ne (d := d) (j := j) ne (fun f => f.route = some r) (.drain d) s
  have judged := judgeIdle_judged d m
  rw [← hm] at links moved carries loaded_ne
  rw [show drainDiscard r d s = judgeIdle d m by rw [hm]; rfl]
  have link : ∀ j, m.link j = s.link j := fun j => by rw [State.link, State.link, links.1]
  have route : ∀ q, m.route q = s.route q := fun q => by rw [State.route, State.route, links.2]
  have queue : ∀ q j, (judgeIdle d m).carries q j ↔ m.carries q j := fun q j => by
    simp only [State.carries, judged.linkQueues]
  refine ⟨moved.trans judged.moved, fun q => (judged.bound q).trans (by rw [route]),
    fun q => (judged.draining q).trans (by rw [route]), fun j ne => (judged.link_ne ne).trans (link j),
    fun q j => (queue q j).trans (carries q j), fun free idle p => ?_⟩
  refine judged.pathsBut (idle := fun j => idle j ∨ j = d) (fun i ne h => h.resolve_right ne) ?_
  constructor
  case held => simpa only [route, link] using p.held
  case drained =>
    intro q k h
    rw [State.drainsOn, route] at h
    rcases p.drained q k h with c | f | ⟨-, ⟨⟩⟩
    · by_cases here : q = r ∧ k = d
      · exact .inr (.inr ⟨here.1, by rw [← here.1, ← here.2]; exact h⟩)
      · exact .inl ((carries q k).2 ⟨c, here⟩)
    · exact .inr (.inl (by rwa [link]))
  case carried =>
    intro q k h
    obtain ⟨h, ne⟩ := (carries q k).1 h
    rw [State.drainsOn, route]
    exact (p.carried q k h).imp_right (.imp_right fun ⟨hq, hf⟩ => ⟨hq, hf, fun e => ne ⟨hq, e⟩⟩)
  case loaded =>
    intro k h
    rw [link]
    exact p.loaded k (moved.loaded h)
  case used =>
    intro k h
    rw [link] at h
    rcases p.used k h with ⟨q, hq⟩ | l | i
    · exact .inl ⟨q, by rwa [route]⟩
    · by_cases here : k = d
      · exact .inr (.inr (.inr here))
      · exact .inr (.inl ((loaded_ne k here).2 l))
    · exact .inr (.inr (.inl i))

theorem Superseded.raise {r : RouteId} {d : LinkId} {s t : State} (m : Superseded r d s t) (p : Port) (k : NoticeKind) (n : Nat) :
    Superseded r d s (t.raise p k n) :=
  ⟨m.moved.trans (.raise ..), m.bound, m.draining, m.link_ne, m.carries, fun free idle p => (m.paths free idle p).raise ..⟩

theorem supersede_superseded (r : RouteId) (d : LinkId) (s : State) : Superseded r d s (supersede r d s) := by
  unfold supersede
  split
  · next none =>
    have none := (s.routeFrames_eq_zero r d).1 none
    refine ⟨.refl s, fun _ => rfl, fun _ => rfl, fun _ _ => rfl, fun q j => ?_, fun free idle p => ?_⟩
    · exact ⟨fun h => ⟨h, fun e => none (e.1 ▸ e.2 ▸ h)⟩, And.left⟩
    · refine { p with drained := fun q k h => ?_, carried := fun q k h => ?_ }
      · exact (p.drained q k h).imp_right (.imp_right fun b => b.2.elim)
      · exact (p.carried q k h).imp_right (.imp_right fun ⟨hq, hf⟩ => ⟨hq, hf, fun e => none (hq ▸ e ▸ h)⟩)
  · exact (drainDiscard_superseded r d s).raise ..

/-! ### Release (R45) -/

/-- What releasing a link leaves: the route drains on it while it has frames there, and a link it did not drain on before is as
it was. -/
structure Released (r : RouteId) (k : LinkId) (s t : State) : Prop where
  moved : Moved s t
  bound : ∀ q, (t.route q).bound = (s.route q).bound
  link : ∀ j, ¬s.drainsOn r j → t.link j = s.link j
  drains : t.carries r k → t.drainsOn r k
  paths : ∀ free idle, PathsBut r free False idle s → PathsBut r free False idle t

/-- What is left when a route that has frames on link `k` is ready to drain there: its older drain on another link, if there is
one, has been superseded. -/
structure DrainCleared (r : RouteId) (k : LinkId) (s t : State) : Prop where
  moved : Moved s t
  bound : ∀ q, (t.route q).bound = (s.route q).bound
  link : ∀ j, ¬s.drainsOn r j → t.link j = s.link j
  frames : t.carries r k
  gone : ∀ j, t.drainsOn r j → t.carries r j → j = k
  paths : ∀ free idle, PathsBut r free False idle s → PathsBut r free True idle t

theorem drainCleared_of_draining {r : RouteId} {k : LinkId} {s : State} (frames : s.carries r k) :
    DrainCleared r k s (match (s.route r).draining with
      | some (d, _) => if d = k then s else supersede r d s
      | none => s) := by
  have plain (gone : ∀ j, s.drainsOn r j → j = k) : DrainCleared r k s s :=
    ⟨.refl s, fun _ => rfl, fun _ _ => rfl, frames, fun j h _ => gone j h, fun _ _ p => p.mono (fun _ => id) False.elim fun _ => id⟩
  split
  · next d e draining =>
    have drains : ∀ j, s.drainsOn r j ↔ d = j := fun j => by simp [State.drainsOn, draining]
    split
    · next here => exact plain fun j h => by rw [← (drains j).1 h, here]
    · next other =>
      have m := supersede_superseded r d s
      refine ⟨m.moved, m.bound, fun j h => m.link_ne j fun e => h ((drains j).2 e.symm), ?_, fun j h c => ?_, fun free idle p => ?_⟩
      · exact (m.carries r k).2 ⟨frames, fun e => other e.2.symm⟩
      · rw [State.drainsOn, m.draining] at h
        exact absurd ⟨rfl, ((drains j).1 h).symm⟩ ((m.carries r j).1 c).2
      · exact (m.paths free idle p).mono (fun _ => And.left) (fun _ => trivial) fun _ => id
  · next draining => exact plain fun j h => by simp [State.drainsOn, draining] at h

/-- The route is put to drain on a link on which it has frames. -/
theorem DrainCleared.released {r : RouteId} {k : LinkId} {s t : State} (m : DrainCleared r k s t) (d : Nat) :
    Released r k s (t.setRoute r { t.route r with draining := some (k, d) }) where
  moved := by
    refine m.moved.trans (.setRoute t r _ rfl (fun _ => .inl) (fun _ => .inl) fun j h => ?_)
    obtain rfl : k = j := by simpa using h
    exact .inr m.frames
  bound q := by
    rw [← m.bound q, State.route_setRoute]
    split
    · subst q; rfl
    · rfl
  link := m.link
  drains _ := by rw [State.drainsOn, State.route_setRoute_self]; rfl
  paths free idle p := by
    have p := m.paths free idle p
    refine p.setRoute _ (fun j h => p.held r j h) (fun j h => ?_) (fun j h => ?_) fun j h => h
    · obtain rfl : k = j := by simpa using h
      exact .inl m.frames
    · rcases p.carried r j h with b | d | ⟨-, f⟩
      · exact .inl b
      · exact .inr (.inl (by rw [m.gone j d h]; rfl))
      · exact .inr (.inr f)

theorem release_released (r : RouteId) (k : LinkId) (s : State) : Released r k s (release r k s) := by
  unfold release
  split
  · next none =>
    exact ⟨.refl s, fun _ => rfl, fun _ _ => rfl, fun h => absurd h ((s.routeFrames_eq_zero r k).1 none), fun _ _ p => p⟩
  · next some =>
    have frames : s.carries r k := by by_contra h; exact some ((s.routeFrames_eq_zero r k).2 h)
    exact (drainCleared_of_draining frames).released _

/-! ### Leaving the bound link, and binding to another (R45, R46, R50, R51) -/

/-- A route is unbound from a link, or bound to another: the link it was bound to is left. -/
theorem leaveBound_sound {r : RouteId} {b : LinkId} {failed : Bool} {s : State}
    (p : PathsBut r (· = b) False (· = b) s) (lost : failed = true → (s.link b).state = .failed) :
    SoundMove s (leaveBound r (some b) failed s) ∧ ∀ q, ((leaveBound r (some b) failed s).route q).bound = (s.route q).bound := by
  obtain ⟨t, ht, moved, bound, paths⟩ : ∃ t, t = (if failed then s else release r b s) ∧ Moved s t
      ∧ (∀ q, (t.route q).bound = (s.route q).bound) ∧ PathsBut r noLink False (· = b) t := by
    refine ⟨_, rfl, ?_⟩
    split
    · next f =>
      refine ⟨.refl s, fun _ => rfl, { p with carried := fun q k h => ?_ }⟩
      refine (p.carried q k h).imp_right (.imp_right fun ⟨_, e⟩ => ?_)
      rcases p.loaded k h.loaded with l | l <;> rw [e, lost f] at l <;> cases l
    · have m := release_released r b s
      have q := m.paths _ _ p
      refine ⟨m.moved, m.bound, { q with carried := fun q' k h => ?_ }⟩
      rcases q.carried q' k h with h | h | ⟨rfl, rfl⟩
      · exact .inl h
      · exact .inr (.inl h)
      · exact .inr (.inl (m.drains h))
  have judged := judgeUnbound_judged b t
  rw [show leaveBound r (some b) failed s = judgeUnbound b t by rw [ht]; rfl]
  exact ⟨⟨(judged.pathsBut (fun i ne h => absurd h ne) paths).sound, moved.trans judged.moved⟩,
    fun q => (judged.bound q).trans (bound q)⟩

/-- A drain on a link is ended with no discard: the route's frames there are free until it is bound to the link. -/
theorem endDrainOn_eq (r : RouteId) (k : LinkId) (s : State) :
    endDrainOn r k s = s ∧ ¬s.drainsOn r k
      ∨ endDrainOn r k s = s.setRoute r { s.route r with draining := none } ∧ s.drainsOn r k := by
  unfold endDrainOn
  split
  · next h => exact .inr ⟨rfl, h⟩
  · next h => exact .inl ⟨rfl, h⟩

theorem endDrainOn_links (r : RouteId) (k : LinkId) (s : State) :
    (endDrainOn r k s).links = s.links ∧ (endDrainOn r k s).queues = s.queues := by
  rcases endDrainOn_eq r k s with ⟨e, -⟩ | ⟨e, -⟩ <;> rw [e] <;> exact ⟨rfl, rfl⟩

theorem endDrainOn_route (r : RouteId) (k : LinkId) (s : State) (q : RouteId) :
    ((endDrainOn r k s).route q).bound = (s.route q).bound ∧ ((endDrainOn r k s).route q).swap = (s.route q).swap := by
  rcases endDrainOn_eq r k s with ⟨e, -⟩ | ⟨e, -⟩ <;> rw [e]
  · exact ⟨rfl, rfl⟩
  · rw [State.route_setRoute]
    split
    · subst q; exact ⟨rfl, rfl⟩
    · exact ⟨rfl, rfl⟩

theorem endDrainOn_not_drainsOn (r : RouteId) (k : LinkId) (s : State) : ¬(endDrainOn r k s).drainsOn r k := by
  rcases endDrainOn_eq r k s with ⟨e, h⟩ | ⟨e, -⟩ <;> rw [e]
  · exact h
  · rw [State.drainsOn, State.route_setRoute_self]; nofun

theorem endDrainOn_moved (r : RouteId) (k : LinkId) (s : State) : Moved s (endDrainOn r k s) := by
  rcases endDrainOn_eq r k s with ⟨e, -⟩ | ⟨e, -⟩ <;> rw [e]
  · exact .refl s
  · exact .setRoute s r _ rfl (fun _ => .inl) (fun _ => .inl) nofun

theorem endDrainOn_pathsBut {s : State} (p : PathsSound s) (r : RouteId) (k : LinkId) :
    PathsBut r (· = k) False noLink (endDrainOn r k s) := by
  rcases endDrainOn_eq r k s with ⟨e, -⟩ | ⟨e, drains⟩ <;> rw [e]
  · exact (p.but r).mono (fun _ => False.elim) id fun _ => id
  · refine (p.but r).setRoute _ (fun j h => p.held r j h) nofun (fun j h => ?_) fun j h => h
    rcases (p.but r).carried r j h with b | d | ⟨-, ⟨⟩⟩
    · exact .inl b
    · exact .inr (.inr (Option.some.inj (d.symm.trans drains)))

/-- A link that is ready is made ACTIVE for a route that is to be bound to it. -/
theorem occupy_eq (k : LinkId) (s : State) :
    occupy k s = s ∧ (s.link k).state ≠ .standby
      ∨ occupy k s = s.setLink k { s.link k with state := .active, lingerDeadline := none } ∧ (s.link k).state = .standby := by
  unfold occupy
  split
  · next h => exact .inr ⟨rfl, h⟩
  · next h => exact .inl ⟨rfl, h⟩

theorem occupy_setRoute (k : LinkId) (r : RouteId) (x : Route) (s : State) :
    occupy k (s.setRoute r x) = (occupy k s).setRoute r x := by
  have link : (s.setRoute r x).link k = s.link k := rfl
  unfold occupy
  rw [link]
  split <;> rfl

theorem occupy_route (k : LinkId) (s : State) (q : RouteId) : (occupy k s).route q = s.route q := by
  rcases occupy_eq k s with ⟨e, -⟩ | ⟨e, -⟩ <;> rw [e]
  rfl

theorem occupy_queues (k : LinkId) (s : State) : (occupy k s).queues = s.queues := by
  rcases occupy_eq k s with ⟨e, -⟩ | ⟨e, -⟩ <;> rw [e]
  rfl

theorem occupy_active {k : LinkId} {s : State} (ready : s.ready k = true) : ((occupy k s).link k).state = .active := by
  rcases occupy_eq k s with ⟨e, h⟩ | ⟨e, -⟩ <;> rw [e]
  · cases state : (s.link k).state <;> simp_all [State.ready, LinkState.ready]
  · rw [State.link_setLink_self]

theorem occupy_moved (k : LinkId) (s : State) : Moved s (occupy k s) := by
  rcases occupy_eq k s with ⟨e, -⟩ | ⟨e, standby⟩ <;> rw [e]
  · exact .refl s
  · exact .setLink s k _ rfl rfl (fun _ => by rw [State.ready, standby]; rfl) nofun
      (by rw [standby]; exact iff_of_false nofun nofun)

theorem occupy_pathsBut {r : RouteId} {free : LinkId → Prop} {k : LinkId} {s : State} (p : PathsBut r free False noLink s) :
    PathsBut r free False (· = k) (occupy k s) := by
  rcases occupy_eq k s with ⟨e, -⟩ | ⟨e, standby⟩ <;> rw [e]
  · exact p.mono (fun _ => id) id fun _ => False.elim
  · refine p.setLink k _ (fun _ => rfl) (fun _ _ h => by rw [standby] at h; cases h) (fun _ => .inl rfl) (fun _ => .inr (.inr rfl))
      fun _ _ => False.elim

/-- A route at work is bound to a ready link, which is made ACTIVE: it is as before but for the link it was bound to. -/
theorem bind_pathsBut {r : RouteId} {t : LinkId} {s : State} (p : PathsBut r (· = t) False noLink s) (ready : s.ready t = true)
    (x : Route) (bound : x.bound = some t) (draining : x.draining = (s.route r).draining) :
    PathsBut r (fun k => (s.route r).bound = some k ∧ ¬s.drainsOn r k) False (fun k => (s.route r).bound = some k)
      (occupy t (s.setRoute r x)) := by
  have carries : ∀ k, (occupy t s).carries r k ↔ s.carries r k := fun k => by
    simp only [State.carries, State.linkQueues, occupy_queues]
  have p' := occupy_pathsBut (k := t) p
  rw [occupy_setRoute]
  refine p'.setRoute x (fun k h => ?_) (fun k h => ?_) (fun k h => ?_) fun k h => ?_
  · obtain rfl : t = k := Option.some.inj (bound.symm.trans h)
    rw [occupy_active ready]; rfl
  · rw [draining] at h
    exact (p'.drained r k (by rwa [State.drainsOn, occupy_route])).imp_right (.imp_right And.right)
  · rw [draining, bound]
    rcases p.carried r k ((carries k).1 h) with b | d | ⟨-, rfl⟩
    · by_cases d : s.drainsOn r k
      · exact .inr (.inl d)
      · exact .inr (.inr ⟨b, d⟩)
    · exact .inr (.inl d)
    · exact .inl rfl
  · rw [occupy_route] at h
    rcases h with rfl | h
    · exact .inr bound
    · exact .inl h

theorem bind_moved {r : RouteId} {t : LinkId} {s : State} (ready : s.ready t = true) (allowed : s.allows r t) (x : Route)
    (permitted : x.permitted = (s.route r).permitted) (bound : x.bound = some t)
    (draining : x.draining = (s.route r).draining) (waits : ∀ k, x.waitsFor k = false) :
    Moved s (occupy t (s.setRoute r x)) := by
  refine (Moved.setRoute s r x permitted (fun k h => ?_) (fun k h => ?_) fun k h => ?_).trans (occupy_moved ..)
  · obtain rfl : t = k := Option.some.inj (bound.symm.trans h)
    exact .inr ⟨ready, allowed⟩
  · rw [waits k] at h; cases h
  · exact .inl (by rwa [State.drainsOn, ← draining])

/-- The record of a route that has been cut over to a link (R46). -/
def Route.cutOver (x : Route) (t : LinkId) (kind : SwapKind) (deadline : Nat) : Route :=
  { x with bound := some t, swap := .probation kind deadline, settle := none }

theorem cutover_of_dark {r : RouteId} {s : State} (h : (s.route r).bound = none) (kind : SwapKind) (t : LinkId) :
    ∃ d, cutover r kind t s
      = occupy t ((endDrainOn r t s).setRoute r (((endDrainOn r t s).route r).cutOver t kind d)) := by
  simp only [cutover, h]
  exact ⟨_, rfl⟩

theorem cutover_of_bound {r : RouteId} {k : LinkId} {s : State} (h : (s.route r).bound = some k) (kind : SwapKind) (t : LinkId) :
    ∃ d, cutover r kind t s = judgeUnbound k (occupy t ((release r k (endDrainOn r t s)).setRoute r
      (((release r k (endDrainOn r t s)).route r).cutOver t kind d))) := by
  simp only [cutover, h]
  exact ⟨_, rfl⟩

/-- Cutover to a ready link that is allowed keeps the paths sound; the route is bound to the link and waits for none (R46). -/
theorem cutover_sound {s : State} (p : PathsSound s) (r : RouteId) (kind : SwapKind) {t : LinkId} (ready : s.ready t = true)
    (allowed : s.allows r t) :
    SoundMove s (cutover r kind t s) ∧ ((cutover r kind t s).route r).bound = some t
      ∧ ∀ k, ((cutover r kind t s).route r).waitsFor k = false := by
  have p1 := endDrainOn_pathsBut p r t
  have m1 := endDrainOn_moved r t s
  have bound1 := (endDrainOn_route r t s r).1
  have undrained := endDrainOn_not_drainsOn r t s
  have ready1 : (endDrainOn r t s).ready t = true := by rwa [State.ready, State.link, (endDrainOn_links r t s).1]
  generalize hs1 : endDrainOn r t s = s1 at *
  cases b : (s.route r).bound with
  | none =>
    obtain ⟨d, e⟩ := cutover_of_dark b kind t
    rw [e, hs1]
    have p2 := bind_pathsBut p1 ready1 ((s1.route r).cutOver t kind d) rfl rfl
    refine ⟨⟨?_, m1.trans (bind_moved ready1 ((m1.allows r t).2 allowed) _ rfl rfl rfl fun _ => rfl)⟩, ?_, fun k => ?_⟩
    · refine (p2.mono (fun k h => ?_) id fun k h => ?_).sound
      · rw [bound1, b] at h; cases h.1
      · rw [bound1, b] at h; cases h
    all_goals rw [occupy_route, State.route_setRoute_self]; rfl
  | some k =>
    obtain ⟨d, e⟩ := cutover_of_bound b kind t
    rw [e, hs1]
    have rel := release_released r k s1
    have p2 := rel.paths _ _ p1
    have ready2 : (release r k s1).ready t = true := by rwa [State.ready, rel.link t undrained]
    have bound2 := (rel.bound r).trans (bound1.trans b)
    have drains2 := rel.drains
    have m2 := m1.trans rel.moved
    generalize release r k s1 = s2 at *
    have p3 := bind_pathsBut p2 ready2 ((s2.route r).cutOver t kind d) rfl rfl
    have m3 := m2.trans (bind_moved ready2 ((m2.allows r t).2 allowed) ((s2.route r).cutOver t kind d) rfl rfl rfl fun _ => rfl)
    have swap : ((occupy t (s2.setRoute r ((s2.route r).cutOver t kind d))).route r).swap = .probation kind d := by
      rw [occupy_route, State.route_setRoute_self]; rfl
    have bound3 : ((occupy t (s2.setRoute r ((s2.route r).cutOver t kind d))).route r).bound = some t := by
      rw [occupy_route, State.route_setRoute_self]; rfl
    have carries : (occupy t (s2.setRoute r ((s2.route r).cutOver t kind d))).carries r k → s2.carries r k := by
      simp only [State.carries, State.linkQueues, occupy_queues, State.setRoute_queues]; exact id
    generalize occupy t (s2.setRoute r ((s2.route r).cutOver t kind d)) = s3 at *
    have p4 : PathsBut r noLink False (· = k) s3 := by
      refine { p3 with carried := fun q j h => ?_, used := fun j h => ?_ }
      · refine (p3.carried q j h).imp_right (.imp_right fun ⟨hq, hb, hd⟩ => ?_)
        obtain rfl : k = j := Option.some.inj (bound2.symm.trans hb)
        exact absurd (drains2 (carries (hq ▸ h))) hd
      · exact (p3.used j h).imp_right (.imp_right fun hb => Option.some.inj (hb.symm.trans bound2))
    have judged := judgeUnbound_judged k s3
    refine ⟨⟨(judged.pathsBut (fun i ne h => absurd h ne) p4).sound, m3.trans judged.moved⟩, (judged.bound r).trans bound3,
      fun j => ?_⟩
    rw [Route.waitsFor, judged.swap r, swap]

/-- A route is unbound from the link it is bound to, with a record that drains as it did, and the link is left (R50, R53). -/
theorem unbind_sound {s : State} (p : PathsSound s) {r : RouteId} {b : LinkId} {failed : Bool} (h : (s.route r).bound = some b)
    (lost : failed = true → (s.link b).state = .failed) (x : Route) (permitted : x.permitted = (s.route r).permitted)
    (bound : x.bound = none) (draining : x.draining = (s.route r).draining)
    (waits : ∀ k, x.waitsFor k = true → (s.route r).waitsFor k = true ∨ s.allows r k) :
    SoundMove s (leaveBound r (some b) failed (s.setRoute r x))
      ∧ ((leaveBound r (some b) failed (s.setRoute r x)).route r).bound = none := by
  have p1 : PathsBut r (· = b) False (· = b) (s.setRoute r x) := by
    refine (p.but r).setRoute x (fun k e => by rw [bound] at e; cases e) (fun k e => ?_) (fun k e => ?_) fun k e => ?_
    · rw [draining] at e; exact ((p.but r).drained r k e).imp_right (.imp_right And.right)
    · rw [draining]
      rcases (p.but r).carried r k e with e | e | ⟨-, ⟨⟩⟩
      · exact .inr (.inr (Option.some.inj (e.symm.trans h)))
      · exact .inr (.inl e)
    · exact .inl (e.elim False.elim fun e => Option.some.inj (e.symm.trans h))
  have m1 : Moved s (s.setRoute r x) :=
    .setRoute s r x permitted (fun k e => by rw [bound] at e; cases e) waits fun k e => .inl (by rwa [State.drainsOn, ← draining])
  obtain ⟨left, bounds⟩ := leaveBound_sound p1 lost
  exact ⟨⟨left.sound, m1.trans left.moved⟩, by rw [bounds, State.route_setRoute_self, bound]⟩

/-- A route is bound to a ready link that is allowed, and the link it was bound to is left (R51). -/
theorem rebind_sound {s : State} (p : PathsSound s) {r : RouteId} {b g : LinkId} {failed : Bool} (h : (s.route r).bound = some b)
    (lost : failed = true → (s.link b).state = .failed) (ready : s.ready g = true) (allowed : s.allows r g) (x : Route)
    (permitted : x.permitted = ((endDrainOn r g s).route r).permitted) (bound : x.bound = some g)
    (draining : x.draining = ((endDrainOn r g s).route r).draining) (waits : ∀ k, x.waitsFor k = false) :
    SoundMove s (leaveBound r (some b) failed (occupy g ((endDrainOn r g s).setRoute r x)))
      ∧ ((leaveBound r (some b) failed (occupy g ((endDrainOn r g s).setRoute r x))).route r).bound = some g := by
  have p1 := endDrainOn_pathsBut p r g
  have m1 := endDrainOn_moved r g s
  have bound1 := (endDrainOn_route r g s r).1.trans h
  have link1 : ∀ k, (endDrainOn r g s).link k = s.link k := fun k => by rw [State.link, State.link, (endDrainOn_links r g s).1]
  generalize endDrainOn r g s = s1 at *
  have ready1 : s1.ready g = true := by rwa [State.ready, link1]
  have p2 := bind_pathsBut p1 ready1 x bound draining
  have m2 := m1.trans (bind_moved ready1 ((m1.allows r g).2 allowed) x permitted bound draining waits)
  have bound2 : ((occupy g (s1.setRoute r x)).route r).bound = some g := by
    rw [occupy_route, State.route_setRoute_self, bound]
  have lost2 : failed = true → ((occupy g (s1.setRoute r x)).link b).state = .failed := fun f => by
    have lost1 : (s1.link b).state = .failed := by rw [link1, lost f]
    rw [occupy_setRoute]
    show ((occupy g s1).link b).state = .failed
    rcases occupy_eq g s1 with ⟨e, -⟩ | ⟨e, standby⟩ <;> rw [e]
    · exact lost1
    · rw [s1.link_setLink_ne, lost1]
      intro e; rw [← e, lost1] at standby; cases standby
  generalize occupy g (s1.setRoute r x) = s2 at *
  obtain ⟨left, bounds⟩ := leaveBound_sound (b := b)
    (p2.mono (fun k e => Option.some.inj (e.1.symm.trans bound1)) id fun k e => Option.some.inj (e.symm.trans bound1)) lost2
  exact ⟨⟨left.sound, m2.trans left.moved⟩, by rw [bounds, bound2]⟩

/-! ### A link powered on (R25) -/

/-- A link that is OFF is powered on: no route was bound to it, and it held no frame. -/
theorem warmed_sound {s : State} (p : PathsSound s) {k : LinkId} (off : (s.link k).state = .off) :
    SoundMove s (s.modifyLink k (·.warmed s.now)) where
  sound := PathsBut.setLink p k _ (fun ⟨r, h⟩ => by have := p.held r k h; rw [off] at this; cases this)
    (fun _ _ h => by rw [off] at h; cases h) (fun h => by rcases p.loaded k h with h | h <;> rw [off] at h <;> cases h) nofun
    fun _ _ => id
  moved := .setLink s k _ rfl rfl nofun nofun (by rw [off]; exact iff_of_false nofun nofun)

end Sys2Proof.Machine
end

section
/-! SUPPORT. The swap machine keeps the paths sound, and leaves a route that it strikes, or whose target is lost, on links that are
allowed (03 sections 4.4 to 4.9). -/

namespace Sys2Proof.Machine

/-! ### Selections name links that are allowed (R41 to R43, R60) -/

theorem State.candidate_allows {s : State} {r : RouteId} {e : Option LinkId} {k : LinkId} (h : s.candidate r e k = true) :
    s.allows r k := by
  simp only [State.candidate, Bool.and_eq_true] at h
  obtain ⟨⟨⟨allowed, -⟩, -⟩, -⟩ := h
  exact allowed

theorem State.routineSelection_allows {s : State} {r : RouteId} {e : Option LinkId} {k : LinkId}
    (h : s.routineSelection r e = some k) : s.allows r k := State.candidate_allows (List.find?_some h)

theorem State.forcedSelection_allows {s : State} {r : RouteId} {e : Option LinkId} {k : LinkId}
    (h : s.forcedSelection r e = some k) : s.allows r k := by
  unfold State.forcedSelection at h
  split at h
  · next j found =>
    cases h
    have h := List.find?_some found
    simp only [Bool.and_eq_true] at h
    exact State.candidate_allows h.1
  · exact State.candidate_allows (List.find?_some h)

theorem State.preferred_allows {s : State} {r : RouteId} {b k : LinkId} (h : s.preferred r b = some k) : s.allows r k := by
  have h := List.find?_some h
  simp only [Bool.and_eq_true] at h
  exact State.candidate_allows h.1

theorem State.rollbackTo_some {s : State} {r : RouteId} {b g : LinkId} (h : s.rollbackTo r b = some g) :
    s.ready g = true ∧ s.allows r g := by
  unfold State.rollbackTo at h
  split at h
  · split at h
    · next cond =>
      cases h
      exact ⟨cond.2.1, State.candidate_allows cond.2.2⟩
    · cases h
  · cases h

/-! ### Records rewritten -/

/-- A route's settle candidate, swap state or reselect mark is written: its swap waits for no more than it did. -/
theorem modifyRoute_sound {s : State} (p : PathsSound s) (r : RouteId) (f : Route → Route)
    (same : (f (s.route r)).permitted = (s.route r).permitted ∧ (f (s.route r)).bound = (s.route r).bound
      ∧ (f (s.route r)).draining = (s.route r).draining)
    (waits : ∀ k, (f (s.route r)).waitsFor k = true → (s.route r).waitsFor k = true ∨ s.allows r k) :
    SoundMove s (s.modifyRoute r f) := p.setRoute r _ same.1 same.2.1 same.2.2 waits

theorem clearReselect_sound {s : State} (p : PathsSound s) (r : RouteId) :
    SoundMove s (s.modifyRoute r fun x => { x with reselect := false }) := modifyRoute_sound p r _ ⟨rfl, rfl, rfl⟩ fun _ => .inl

theorem becomeIdle_sound {s : State} (p : PathsSound s) (r : RouteId) :
    SoundMove s (s.modifyRoute r fun x => { x with swap := .idle }) := modifyRoute_sound p r _ ⟨rfl, rfl, rfl⟩ nofun

theorem settleEvaluate_sound {s : State} (p : PathsSound s) (r : RouteId) : SoundMove s (settleEvaluate r s) :=
  (OnlySettle.settleEvaluate r s).soundMove p

theorem settleAll_sound {s : State} (p : PathsSound s) : SoundMove s (settleAll s) := (OnlySettle.settleAll s).soundMove p

theorem raise_sound {s : State} (p : PathsSound s) (o : Port) (k : NoticeKind) (n : Nat) : SoundMove s (s.raise o k n) :=
  ⟨PathsBut.raise p o k n, .raise ..⟩

/-! ### Starting swaps (R44) -/

/-- What a starter of swaps must do: to a link that is allowed it keeps the paths sound, and the route then waits for none but
links that are allowed. -/
def StartsSoundly (start : Starter) : Prop :=
  ∀ r kind t s, PathsSound s → s.allows r t →
    SoundMove s (start r kind t s) ∧ ∀ k, ((start r kind t s).route r).waitsFor k = true → s.allows r k

theorem beginSwap_startsSoundly {onUnfit : LinkId → State → State}
    (unfit : ∀ t s, PathsSound s → SoundMove s (onUnfit t s)) : StartsSoundly (beginSwap onUnfit) := by
  intro r kind t s p allowed
  have m1 := modifyRoute_sound p r (fun x => { x with settle := none }) ⟨rfl, rfl, rfl⟩ fun _ => .inl
  have allowed1 := (m1.moved.allows r t).2 allowed
  unfold beginSwap
  dsimp only
  generalize s.modifyRoute r (fun x => { x with settle := none }) = s1 at *
  split
  · next ready =>
    obtain ⟨m2, -, waits⟩ := cutover_sound m1.sound r (if (s.route r).bound.isNone = true then .forced else kind) ready allowed1
    exact ⟨m1.trans m2, fun k h => by rw [waits k] at h; cases h⟩
  · have waitsOnly : ∀ k kind, ({ s1.route r with swap := .waking kind t } : Route).waitsFor k = true → t = k :=
      fun k kind h => by simpa [Route.waitsFor] using h
    have m2 := m1.trans (modifyRoute_sound m1.sound r
      (fun x => { x with swap := .waking (if (s.route r).bound.isNone = true then .forced else kind) t })
      ⟨rfl, rfl, rfl⟩ fun k h => .inr (by rwa [← waitsOnly k _ h]))
    have waits2 : ∀ k, ((s1.modifyRoute r fun x =>
        { x with swap := .waking (if (s.route r).bound.isNone = true then .forced else kind) t }).route r).waitsFor k = true →
        s.allows r k := fun k h => by
      rw [State.route_modifyRoute, if_pos rfl] at h
      rwa [← waitsOnly k _ h]
    generalize s1.modifyRoute r (fun x =>
      { x with swap := .waking (if (s.route r).bound.isNone = true then .forced else kind) t }) = s2 at *
    have onward {u : State} (m : SoundMove s2 u) :
        SoundMove s u ∧ ∀ k, (u.route r).waitsFor k = true → s.allows r k :=
      ⟨m2.trans m, fun k h => (m.moved.waits r k h).elim (waits2 k) (m2.moved.allows r k).1⟩
    split
    · next off =>
      have m3 := warmed_sound m2.sound off
      split
      · exact onward m3
      · exact onward (m3.trans (unfit t _ m3.sound))
    · exact onward (.refl m2.sound)

section Starting

variable {start : Starter} (h : StartsSoundly start)
include h

theorem selectForced_sound {s : State} (p : PathsSound s) (r : RouteId) (e : Option LinkId) :
    SoundMove s (selectForced start r e s) := by
  unfold selectForced
  have m := clearReselect_sound p r
  dsimp only
  split
  · next t found => exact m.trans (h r .forced t _ m.sound (State.forcedSelection_allows found)).1
  · exact m

/-- A forced selection for a route that waits leaves it waiting for none but links that are allowed. -/
theorem reselectWaking_sound {s : State} (p : PathsSound s) (r : RouteId) (e : Option LinkId) :
    SoundMove s (reselectWaking start r e s)
      ∧ ∀ k, ((reselectWaking start r e s).route r).waitsFor k = true → s.allows r k := by
  unfold reselectWaking
  have m := clearReselect_sound p r
  dsimp only
  split
  · next t found =>
    obtain ⟨n, waits⟩ := h r .forced t _ m.sound (State.forcedSelection_allows found)
    exact ⟨m.trans n, fun k w => (m.moved.allows r k).1 (waits k w)⟩
  · refine ⟨m.trans (becomeIdle_sound m.sound r), fun k w => ?_⟩
    rw [State.route_modifyRoute, if_pos rfl] at w
    cases w

theorem backToIdle_sound {s : State} (p : PathsSound s) (r : RouteId) (e : Option LinkId) :
    SoundMove s (backToIdle start r e s) := by
  unfold backToIdle
  split
  · have m := clearReselect_sound p r
    dsimp only
    split
    · next t found =>
      split
      · exact m.trans (settleEvaluate_sound m.sound r)
      · exact m.trans (h r .routine t _ m.sound (State.routineSelection_allows found)).1
    · exact m.trans (settleEvaluate_sound m.sound r)
  · exact settleEvaluate_sound p r

theorem rollback_sound {s : State} (p : PathsSound s) {r : RouteId} {b g : LinkId} {failed : Bool}
    (bound : (s.route r).bound = some b) (lost : failed = true → (s.link b).state = .failed) (target : s.rollbackTo r b = some g) :
    SoundMove s (rollback start r b g failed s)
      ∧ ∀ k, ((rollback start r b g failed s).route r).bound = some k → s.ready k = true ∧ s.allows r k := by
  obtain ⟨ready, allowed⟩ := State.rollbackTo_some target
  obtain ⟨m, bound1⟩ := rebind_sound p bound lost ready allowed
    { (endDrainOn r g s).route r with bound := some g, swap := .idle, settle := none } rfl rfl rfl fun _ => rfl
  have n := m.trans (raise_sound m.sound .lp .swapRollback r.val)
  have o := backToIdle_sound h n.sound r none
  refine ⟨n.trans o, fun k hk => ?_⟩
  rcases o.moved.bound r k hk with hk | ⟨hr, ha⟩
  · obtain rfl : k = g := Option.some.inj (Eq.trans (Eq.symm hk) bound1)
    exact ⟨ready, allowed⟩
  · exact ⟨n.moved.ready k hr, (n.moved.allows r k).1 ha⟩

/-- A forced cause leaves the route bound to no link but one that is ready and allowed (R50 to R53). -/
theorem strike_sound {s : State} (p : PathsSound s) {r : RouteId} {b : LinkId} {failed : Bool}
    (bound : (s.route r).bound = some b) (lost : failed = true → (s.link b).state = .failed) :
    SoundMove s (strike start r b failed s)
      ∧ ∀ k, ((strike start r b failed s).route r).bound = some k → s.ready k = true ∧ s.allows r k := by
  have select : SoundMove s (selectForced start r (some b) (leaveBound r (some b) failed (s.modifyRoute r Route.unbound)))
      ∧ ∀ k, ((selectForced start r (some b) (leaveBound r (some b) failed (s.modifyRoute r Route.unbound))).route r).bound
        = some k → s.ready k = true ∧ s.allows r k := by
    obtain ⟨m, none⟩ := unbind_sound p bound lost (s.route r).unbound rfl rfl rfl nofun
    have n := selectForced_sound h m.sound r (some b)
    refine ⟨m.trans n, fun k hk => ?_⟩
    rcases n.moved.bound r k hk with hk | ⟨hr, ha⟩
    · cases none.symm.trans hk
    · exact ⟨m.moved.ready k hr, (m.moved.allows r k).1 ha⟩
  unfold strike
  split
  · exact select
  · split
    · next g target => exact rollback_sound h p bound lost target
    · exact select
  · next kind t swap =>
    have waits : ∀ k, ({ s.route r with bound := none, swap := .waking .forced t, settle := none } : Route).waitsFor k = true →
        (s.route r).waitsFor k = true ∨ s.allows r k := fun k w => .inl (by simpa only [Route.waitsFor, swap] using w)
    obtain ⟨m, none⟩ := unbind_sound p bound lost
      { s.route r with bound := none, swap := .waking .forced t, settle := none } rfl rfl rfl waits
    have n := (reselectWaking_sound h m.sound r (some b)).1
    refine ⟨m.trans n, fun k hk => ?_⟩
    rcases n.moved.bound r k hk with hk | ⟨hr, ha⟩
    · cases none.symm.trans hk
    · exact ⟨m.moved.ready k hr, (m.moved.allows r k).1 ha⟩

/-- A route that has lost its target waits for none but links that are allowed (R47). -/
theorem targetLost_sound {s : State} (p : PathsSound s) (r : RouteId) (t : LinkId) :
    SoundMove s (targetLost start r t s)
      ∧ ∀ k, ((targetLost start r t s).route r).waitsFor k = true → s.allows r k := by
  unfold targetLost
  split
  · have m := becomeIdle_sound p r
    have n := backToIdle_sound h m.sound r (some t)
    refine ⟨m.trans n, fun k w => (n.moved.waits r k w).elim (fun w => ?_) (m.moved.allows r k).1⟩
    rw [State.route_modifyRoute, if_pos rfl] at w
    cases w
  · exact reselectWaking_sound h p r (some t)
  all_goals next swap => exact ⟨.refl p, fun k w => by rw [Route.waitsFor, swap] at w; cases w⟩

theorem answerUnfit_sound {s : State} (p : PathsSound s) (k : LinkId) : SoundMove s (answerUnfit start k s) := by
  unfold answerUnfit
  have m := SoundMove.fold (f := fun s r =>
    if (s.route r).bound = some k then strike start r k false s
    else if (s.route r).waitsFor k then targetLost start r k s
    else s) (fun s r p => by
      split
      · next bound => exact (strike_sound h p bound (failed := false) nofun).1
      · split
        · exact (targetLost_sound h p r k).1
        · exact .refl p) allRoutes s p
  exact m.trans (settleAll_sound m.sound)

end Starting

theorem startSwapRounds_startsSoundly : ∀ n, StartsSoundly (startSwapRounds n)
  | 0 => beginSwap_startsSoundly fun _ _ p => .refl p
  | n + 1 => beginSwap_startsSoundly fun t _ p => answerUnfit_sound (startSwapRounds_startsSoundly n) p t

theorem startSwap_startsSoundly : StartsSoundly startSwap := startSwapRounds_startsSoundly 6

theorem startSwap_sound {s : State} (p : PathsSound s) (r : RouteId) (kind : SwapKind) {t : LinkId} (allowed : s.allows r t) :
    SoundMove s (startSwap r kind t s) := (startSwap_startsSoundly r kind t s p allowed).1

/-! ### DARK routes, crossings and policy changes (R40, R58, R62) -/

/-- The links a route is bound to or waits for meet a condition. -/
def RouteWithin (P : LinkId → Prop) (s : State) (r : RouteId) : Prop :=
  ∀ k, (s.route r).bound = some k ∨ (s.route r).waitsFor k = true → P k

/-- The links a route is bound to or waits for are allowed (R47, R63). -/
abbrev RouteFits (s : State) (r : RouteId) : Prop := RouteWithin (s.allows r) s r

theorem routeWithin_iff {P : LinkId → Prop} {s : State} {r : RouteId} :
    RouteWithin P s r ↔ (∀ k, (s.route r).bound = some k → P k) ∧ ∀ kind k, (s.route r).swap = .waking kind k → P k := by
  constructor
  · exact fun h => ⟨fun k hk => h k (.inl hk), fun kind k hk => h k (.inr (by simp [Route.waitsFor, hk]))⟩
  · rintro ⟨bound, waking⟩ k (hk | hk)
    · exact bound k hk
    · unfold Route.waitsFor at hk
      split at hk
      · next kind t swap => exact waking kind k (by rw [swap, of_decide_eq_true hk])
      all_goals cases hk

theorem Moved.routeWithin {s t : State} (m : Moved s t) {r : RouteId} {P : LinkId → Prop} (allowed : ∀ k, s.allows r k → P k)
    (h : RouteWithin P s r) : RouteWithin P t r := by
  rintro k (hk | hk)
  · exact (m.bound r k hk).elim (fun hk => h k (.inl hk)) fun hk => allowed k hk.2
  · exact (m.waits r k hk).elim (fun hk => h k (.inr hk)) (allowed k)

theorem Moved.routeFits {s t : State} (m : Moved s t) {r : RouteId} (h : RouteFits s r) : RouteFits t r :=
  fun k hk => (m.allows r k).2 (m.routeWithin (fun _ => id) h k hk)

theorem reselectDark_sound {s : State} (p : PathsSound s) (r : RouteId) : SoundMove s (reselectDark r s) := by
  unfold reselectDark
  split
  · exact selectForced_sound startSwap_startsSoundly p r none
  · have m := clearReselect_sound p r
    dsimp only
    split
    · next t found =>
      split
      · exact m
      · exact m.trans (startSwap_sound m.sound r .forced (State.forcedSelection_allows found))
    · exact m
  · exact .refl p

theorem reselectAllDark_sound {s : State} (p : PathsSound s) : SoundMove s (reselectAllDark s) :=
  SoundMove.fold (fun _ r p => reselectDark_sound p r) _ s p

theorem strike_fits {s : State} (p : PathsSound s) {r : RouteId} {b : LinkId} (bound : (s.route r).bound = some b)
    (waits : ∀ k, (s.route r).waitsFor k = true → s.allows r k) :
    SoundMove s (strike startSwap r b false s) ∧ RouteFits (strike startSwap r b false s) r := by
  obtain ⟨m, bounds⟩ := strike_sound startSwap_startsSoundly p bound (failed := false) nofun
  refine ⟨m, fun k hk => (m.moved.allows r k).2 ?_⟩
  exact hk.elim (fun hk => (bounds k hk).2) fun hk => (m.moved.waits r k hk).elim (waits k) id

theorem strikeIfBarred_fits {s : State} (p : PathsSound s) (r : RouteId) {allowed : State → LinkId → Bool}
    (bound : ∀ k, (s.route r).bound = some k → allowed s k = true → s.allows r k)
    (waits : ∀ k, (s.route r).waitsFor k = true → s.allows r k) :
    SoundMove s (strikeIfBarred allowed r s) ∧ RouteFits (strikeIfBarred allowed r s) r := by
  unfold strikeIfBarred
  split
  · next b hb =>
    split
    · next h => exact ⟨.refl p, fun k hk => hk.elim (fun hk => by rw [hb] at hk; cases hk; exact bound _ hb h) (waits k)⟩
    · exact strike_fits p hb waits
  · next hb => exact ⟨.refl p, fun k hk => hk.elim (fun hk => by rw [hb] at hk; cases hk) (waits k)⟩

theorem markReselect_sound {s : State} (p : PathsSound s) (r : RouteId) (t : LinkId) : SoundMove s (markReselect r t s) := by
  unfold markReselect
  split
  · split
    · exact .refl p
    · exact modifyRoute_sound p r _ ⟨rfl, rfl, rfl⟩ fun _ => .inl
  · exact .refl p

theorem routineCause_sound {s : State} (p : PathsSound s) (r : RouteId) (b : LinkId) : SoundMove s (routineCause r b s) := by
  obtain ⟨u, hu, m⟩ : ∃ u, u = (match s.routineSelection r none with
      | some t => if t = b then s else startSwap r .routine t s
      | none => s) ∧ SoundMove s u := by
    refine ⟨_, rfl, ?_⟩
    split
    · next t found =>
      split
      · exact .refl p
      · exact startSwap_sound p r .routine (State.routineSelection_allows found)
    · exact .refl p
  rw [show routineCause r b s
      = if (u.route r).swap = .idle ∧ (u.route r).bound.isSome then settleEvaluate r u else u by rw [hu]; rfl]
  split
  · exact m.trans (settleEvaluate_sound m.sound r)
  · exact m

/-- A route that has lost its target, and is then struck where its bound link is barred, is left on links that are allowed. -/
theorem targetLost_strikeIfBarred_fits {s : State} (p : PathsSound s) (r : RouteId) (t : LinkId)
    {allowed : State → LinkId → Bool}
    (bound : ∀ u, Moved s u → ∀ k, (s.route r).bound = some k → allowed u k = true → s.allows r k) :
    SoundMove s (strikeIfBarred allowed r (targetLost startSwap r t s))
      ∧ RouteFits (strikeIfBarred allowed r (targetLost startSwap r t s)) r := by
  obtain ⟨m, waits⟩ := targetLost_sound startSwap_startsSoundly p r t
  obtain ⟨n, f⟩ := strikeIfBarred_fits m.sound r (allowed := allowed)
    (fun k hk h => (m.moved.allows r k).2 ((m.moved.bound r k hk).elim (fun hk => bound _ m.moved k hk h) And.right))
    fun k hk => (m.moved.allows r k).2 (waits k hk)
  exact ⟨m.trans n, f⟩

/-- A DARK route that has lost its target is left on links that are allowed. -/
theorem targetLost_fits {s : State} (p : PathsSound s) {r : RouteId} (t : LinkId) (dark : (s.route r).bound = none) :
    SoundMove s (targetLost startSwap r t s) ∧ RouteFits (targetLost startSwap r t s) r := by
  obtain ⟨m, waits⟩ := targetLost_sound startSwap_startsSoundly p r t
  refine ⟨m, fun k hk => (m.moved.allows r k).2 (hk.elim (fun hk => ?_) (waits k))⟩
  exact (m.moved.bound r k hk).elim (fun hk => by rw [dark] at hk; cases hk) And.right

/-- A route that is within what is permitted answers a crossing, and the links it is left with are allowed (R58). -/
theorem answerCrossing_fits {s : State} (p : PathsSound s) {r : RouteId}
    (permitted : RouteWithin (fun k => s.permits r k = true) s r) :
    SoundMove s (answerCrossing r s) ∧ RouteFits (answerCrossing r s) r := by
  have fits {t : State} (m : SoundMove s t) (h : RouteFits s r) : SoundMove s t ∧ RouteFits t r := ⟨m, m.moved.routeFits h⟩
  have bound := (routeWithin_iff.1 permitted).1
  have waking := (routeWithin_iff.1 permitted).2
  unfold answerCrossing
  split
  · next b hb swap =>
    split
    · next usable => exact fits (routineCause_sound p r b) (by simp [routeWithin_iff, hb, swap, State.allows, bound, usable])
    · exact strike_fits p hb (by simp [Route.waitsFor, swap])
  · next hb swap => exact fits (reselectDark_sound p r) (by simp [routeWithin_iff, hb, swap])
  · next b kind t hb swap =>
    split
    · next usable =>
      split
      · next usable' =>
        exact fits (markReselect_sound p r t)
          (by simp [routeWithin_iff, hb, swap, State.allows, bound, waking kind t swap, usable, usable'])
      · exact strike_fits p hb (by simp [Route.waitsFor, swap, State.allows, waking kind t swap, usable])
    · exact targetLost_strikeIfBarred_fits p r t fun u m k hk usable =>
        ⟨bound k hk, by rwa [State.usable, State.segment, State.segmentIndex, m.zone] at usable⟩
  · next kind t hb swap =>
    split
    · next usable =>
      exact fits (reselectDark_sound p r) (by simp [routeWithin_iff, hb, swap, State.allows, waking kind t swap, usable])
    · exact targetLost_fits p t hb
  · next b kind d hb swap =>
    split
    · next usable => exact fits (markReselect_sound p r b) (by simp [routeWithin_iff, hb, swap, State.allows, bound, usable])
    · exact strike_fits p hb (by simp [Route.waitsFor, swap])
  · next kind d hb swap => exact fits (.refl p) (by simp [routeWithin_iff, hb, swap])

/-- A route that is within what is usable answers a change of its mask, and the links it is left with are allowed (R40). -/
theorem answerPolicy_fits {s : State} (p : PathsSound s) {r : RouteId} (usable : RouteWithin (fun k => s.usable k = true) s r) :
    SoundMove s (answerPolicy r s) ∧ RouteFits (answerPolicy r s) r := by
  have fits {t : State} (m : SoundMove s t) (h : RouteFits s r) : SoundMove s t ∧ RouteFits t r := ⟨m, m.moved.routeFits h⟩
  have bound := (routeWithin_iff.1 usable).1
  have waking := (routeWithin_iff.1 usable).2
  unfold answerPolicy
  split
  · next b hb swap =>
    split
    · next permits =>
      exact fits (settleEvaluate_sound p r) (by simp [routeWithin_iff, hb, swap, State.allows, bound, permits])
    · exact strike_fits p hb (by simp [Route.waitsFor, swap])
  · next hb swap => exact fits (reselectDark_sound p r) (by simp [routeWithin_iff, hb, swap])
  · next b kind t hb swap =>
    split
    · next permits =>
      split
      · next permits' =>
        exact fits (.refl p) (by simp [routeWithin_iff, hb, swap, State.allows, bound, waking kind t swap, permits, permits'])
      · exact strike_fits p hb (by simp [Route.waitsFor, swap, State.allows, waking kind t swap, permits])
    · exact targetLost_strikeIfBarred_fits p r t fun u m k hk permits =>
        ⟨by rwa [State.permits, m.permitted] at permits, bound k hk⟩
  · next kind t hb swap =>
    split
    · next permits =>
      exact fits (reselectDark_sound p r) (by simp [routeWithin_iff, hb, swap, State.allows, waking kind t swap, permits])
    · exact targetLost_fits p t hb
  · next b kind d hb swap =>
    split
    · next permits => exact fits (.refl p) (by simp [routeWithin_iff, hb, swap, State.allows, bound, permits])
    · exact strike_fits p hb (by simp [Route.waitsFor, swap])
  · next kind d hb swap => exact fits (.refl p) (by simp [routeWithin_iff, hb, swap])

end Sys2Proof.Machine
end

section
/-! SUPPORT. What the link manager hands on keeps the paths sound (R36), and what is left of a link that has been retired or has
failed. -/

namespace Sys2Proof.Machine

/-- A fold over routes, each of which keeps the paths sound and leaves something true of its route that such moves keep. -/
theorem SoundMove.fold_each {f : State → RouteId → State} {before after : State → RouteId → Prop}
    (each : ∀ s r, PathsSound s → before s r → SoundMove s (f s r) ∧ after (f s r) r)
    (keepBefore : ∀ s t r, PathsSound s → Moved s t → before s r → before t r)
    (keepAfter : ∀ s t r, PathsSound s → Moved s t → after s r → after t r) (l : List RouteId) :
    ∀ s, PathsSound s → (∀ r, before s r) → SoundMove s (l.foldl f s) ∧ ∀ r ∈ l, after (l.foldl f s) r := by
  induction l with
  | nil => exact fun s p _ => ⟨.refl p, nofun⟩
  | cons q l ih =>
    intro s p h
    obtain ⟨m, a⟩ := each s q p (h q)
    obtain ⟨n, all⟩ := ih (f s q) m.sound fun r => keepBefore s _ r p m.moved (h r)
    refine ⟨m.trans n, fun r hr => ?_⟩
    rcases List.mem_cons.1 hr with rfl | hr
    · exact keepAfter _ _ _ m.sound n.moved a
    · exact all r hr

/-- Every route answers a crossing: all of them are left on links that are allowed (R58). -/
theorem answerCrossings_sound {s : State} (p : PathsSound s)
    (permitted : ∀ r, RouteWithin (fun k => s.permits r k = true) s r) :
    SoundMove s (allRoutes.foldl (fun s r => answerCrossing r s) s)
      ∧ ∀ r, RouteFits (allRoutes.foldl (fun s r => answerCrossing r s) s) r := by
  obtain ⟨m, fits⟩ := SoundMove.fold_each (f := fun s r => answerCrossing r s)
    (before := fun s r => RouteWithin (fun k => s.permits r k = true) s r) (after := RouteFits)
    (fun s r p h => answerCrossing_fits p h)
    (fun s t r _ m h k hk => by
      have : s.permits r k = true := m.routeWithin (fun k hk => hk.1) h k hk
      show t.permits r k = true
      rwa [State.permits, m.permitted])
    (fun s t r _ m h => m.routeFits h) allRoutes s p permitted
  exact ⟨m, fun r => fits r (mem_allRoutes r)⟩

/-- A route is bound only to an ACTIVE link, where that link was ready before. -/
theorem SoundMove.active_of_bound {s t : State} (m : SoundMove s t) {r : RouteId} {k : LinkId} (ready : s.ready k = true)
    (bound : (t.route r).bound = some k) : (t.link k).state = .active := by
  have held := m.sound.held r k bound
  have retiring := m.moved.retiring k
  have failed := (m.moved.failed k).1
  rw [State.ready] at ready
  cases state : (t.link k).state <;> rw [state] at held retiring failed
  case retiring => rw [retiring rfl] at ready; cases ready
  case failed => rw [failed rfl] at ready; cases ready
  all_goals cases held

/-- The routes that wait for a link that has become ready cut over to it (R47). -/
theorem cutovers_sound {k : LinkId} (l : List RouteId) :
    ∀ s, PathsSound s → s.ready k = true → (∀ r, RouteFits s r) →
      SoundMove s (l.foldl (fun s r => match (s.route r).swap with
        | .waking kind t => if t = k then cutover r kind k s else s
        | .idle | .probation _ _ => s) s) := by
  induction l with
  | nil => exact fun s p _ _ => .refl p
  | cons r l ih =>
    intro s p ready fits
    rw [List.foldl_cons]
    split
    · next kind t swap =>
      split
      · next here =>
        subst t
        obtain ⟨m, bound, -⟩ := cutover_sound p r kind ready ((routeWithin_iff.1 (fits r)).2 kind k swap)
        have active := m.active_of_bound ready bound
        exact m.trans (ih _ m.sound (by rw [State.ready, active]; rfl) fun q => m.moved.routeFits (fits q))
      · exact ih s p ready fits
    all_goals exact ih s p ready fits

theorem toldReady_sound {k : LinkId} {s : State} (p : PathsSound s) (ready : s.ready k = true) (fits : ∀ r, RouteFits s r)
    (serving : s.service = .serving) : SoundMove s (toldReady k s) := by
  simp only [toldReady, inServing, serving]
  have m := cutovers_sound allRoutes s p ready fits
  have n := m.trans (reselectAllDark_sound m.sound)
  exact n.trans (settleAll_sound n.sound)

theorem toldFitness_sound {s : State} (p : PathsSound s) (k : LinkId) : SoundMove s (toldFitness k s) := by
  unfold toldFitness inServing
  split
  · dsimp only
    split
    · have m := reselectAllDark_sound p
      exact m.trans (settleAll_sound m.sound)
    · exact answerUnfit_sound startSwap_startsSoundly p k
  · exact .refl p

theorem toldOff_sound {s : State} (p : PathsSound s) (k : LinkId) : SoundMove s (toldOff k s) := by
  unfold toldOff inServing
  split
  · have m := SoundMove.fold (f := fun s r => if (s.route r).waitsFor k then targetLost startSwap r k s else s)
      (fun s r p => by
        split
        · exact (targetLost_sound startSwap_startsSoundly p r k).1
        · exact .refl p) allRoutes s p
    exact m.trans (settleAll_sound m.sound)
  · exact .refl p

/-- A link that is not ready, and to which a route is not bound. -/
def NotBoundTo (k : LinkId) (s : State) (r : RouteId) : Prop := s.ready k = false ∧ (s.route r).bound ≠ some k

theorem NotBoundTo.moved {k : LinkId} {s t : State} {r : RouteId} (m : Moved s t) (h : NotBoundTo k s r) : NotBoundTo k t r := by
  obtain ⟨unready, unbound⟩ := h
  refine ⟨Bool.eq_false_iff.2 fun e => ?_, fun e => ?_⟩
  · rw [m.ready k e] at unready; cases unready
  · rcases m.bound r k e with b | ⟨ready, -⟩
    · exact unbound b
    · rw [ready] at unready; cases unready

/-- The routes bound to a RETIRING link are struck: none is bound to it any more (R24). -/
theorem toldRetired_sound {k : LinkId} {s : State} (p : PathsSound s) (retiring : (s.link k).state = .retiring)
    (serving : s.service = .serving) : SoundMove s (toldRetired k s) ∧ ∀ r, NotBoundTo k (toldRetired k s) r := by
  simp only [toldRetired, inServing, serving]
  have unready : s.ready k = false := by rw [State.ready, retiring]; rfl
  obtain ⟨m, none⟩ := SoundMove.fold_each
    (f := fun s r => if (s.route r).bound = some k then strike startSwap r k false s else s)
    (before := fun s _ => s.ready k = false) (after := NotBoundTo k)
    (fun s r p unready => by
      split
      · next bound =>
        obtain ⟨m, bounds⟩ := strike_sound startSwap_startsSoundly p bound (failed := false) nofun
        refine ⟨m, Bool.eq_false_iff.2 fun e => ?_, fun e => ?_⟩
        · rw [m.moved.ready k e] at unready; cases unready
        · rw [(bounds k e).1] at unready; cases unready
      · next unbound => exact ⟨.refl p, unready, unbound⟩)
    (fun s t _ _ m h => Bool.eq_false_iff.2 fun e => by rw [m.ready k e] at h; cases h)
    (fun s t r _ m h => h.moved m) allRoutes s p fun _ => unready
  have n := settleAll_sound m.sound
  exact ⟨m.trans n, fun r => (none r (mem_allRoutes r)).moved n.moved⟩

/-- A link that is FAILED, to which a route is not bound, and on which it does not drain. -/
def FreeOfFailed (k : LinkId) (s : State) (r : RouteId) : Prop :=
  (s.link k).state = .failed ∧ (s.route r).bound ≠ some k ∧ ¬s.drainsOn r k

theorem FreeOfFailed.moved {k : LinkId} {s t : State} {r : RouteId} (p : PathsSound s) (m : Moved s t)
    (h : FreeOfFailed k s r) : FreeOfFailed k t r := by
  obtain ⟨failed, unbound, undrained⟩ := h
  refine ⟨(m.failed k).2 failed, fun e => ?_, fun e => ?_⟩
  · rcases m.bound r k e with b | ⟨ready, -⟩
    · exact unbound b
    · rw [State.ready, failed] at ready; cases ready
  · rcases m.drains r k e with d | c
    · exact undrained d
    · rcases p.loaded k c.loaded with l | l <;> rw [failed] at l <;> cases l

/-- A route answers a link's failure: it is neither bound to the link nor drains on it (R54). -/
theorem answerFailure_sound {k : LinkId} {s : State} (p : PathsSound s) (failed : (s.link k).state = .failed) (r : RouteId) :
    SoundMove s (answerFailure k r s) ∧ FreeOfFailed k (answerFailure k r s) r := by
  have m1 : SoundMove s (endDrainOn r k s) := by
    refine ⟨PathsBut.sound (r := r) { endDrainOn_pathsBut p r k with carried := fun q j h => ?_ }, endDrainOn_moved r k s⟩
    refine ((endDrainOn_pathsBut p r k).carried q j h).imp_right (.imp_right fun ⟨_, here⟩ => ?_)
    rcases p.loaded k (here ▸ ((endDrainOn_moved r k s).carries h).loaded) with l | l <;> rw [failed] at l <;> cases l
  have failed1 : ((endDrainOn r k s).link k).state = .failed := (m1.moved.failed k).2 failed
  have undrained := endDrainOn_not_drainsOn r k s
  unfold answerFailure
  dsimp only
  generalize endDrainOn r k s = s1 at *
  have onward {t : State} (m : SoundMove s1 t) (unbound : (t.route r).bound ≠ some k) : SoundMove s t ∧ FreeOfFailed k t r := by
    refine ⟨m1.trans m, (m.moved.failed k).2 failed1, unbound, fun e => ?_⟩
    rcases m.moved.drains r k e with d | c
    · exact undrained d
    · rcases m1.sound.loaded k c.loaded with l | l <;> rw [failed1] at l <;> cases l
  have unready : s1.ready k = false := by rw [State.ready, failed1]; rfl
  split
  · next bound =>
    obtain ⟨m, bounds⟩ := strike_sound startSwap_startsSoundly m1.sound bound (failed := true) fun _ => failed1
    exact onward m fun e => by rw [(bounds k e).1] at unready; cases unready
  · next unbound =>
    split
    · obtain ⟨m, -⟩ := targetLost_sound startSwap_startsSoundly m1.sound r k
      exact onward m ((NotBoundTo.moved m.moved ⟨unready, unbound⟩).2)
    · exact onward (.refl m1.sound) unbound

/-- Every route has answered a link's failure (R54). -/
theorem toldFailed_sound {k : LinkId} {s : State} (p : PathsSound s) (failed : (s.link k).state = .failed)
    (serving : s.service = .serving) : SoundMove s (toldFailed k s) ∧ ∀ r, FreeOfFailed k (toldFailed k s) r := by
  simp only [toldFailed, inServing, serving]
  obtain ⟨m, free⟩ := SoundMove.fold_each (f := fun s r => answerFailure k r s)
    (before := fun s _ => (s.link k).state = .failed) (after := FreeOfFailed k)
    (fun s r p h => answerFailure_sound p h r) (fun s t _ _ m h => (m.failed k).2 h) (fun s t r p m h => h.moved p m)
    allRoutes s p fun _ => failed
  have n := settleAll_sound m.sound
  exact ⟨m.trans n, fun r => (free r (mem_allRoutes r)).moved m.sound n.moved⟩

end Sys2Proof.Machine
end

section
/-! SUPPORT. The laws of the paths between events, and the moves of the link manager that keep them (02 sections 3.3 and 3.4). -/

namespace Sys2Proof.Machine

/-! ### The laws between events, in parts -/

/-- Between events a bound link is ACTIVE, and a draining one holds a frame of the route. -/
structure PathsWhole (s : State) : Prop where
  sound : PathsSound s
  bound : ∀ r k, (s.route r).bound = some k → (s.link k).state = .active
  drains : ∀ r k, s.drainsOn r k → s.carries r k

/-- The frames queued on links are as R90 and R98 have them, of sessions that are not FREE; they fit the shares, and the latches
follow them. -/
structure FramesInOrder (s : State) : Prop where
  frame : ∀ k c, ∀ f ∈ (s.linkQueues k).frames.get c,
    f.direction = .up ∧ f.cls = c ∧ f.link = some k ∧ 40 ≤ f.length ∧ f.length ≤ 2048 ∧ f.blocks = blocksOf f.length
      ∧ (s.session f.session).isSome = true ∧ ∃ r, f.route = some r
  share : ∀ k, occupancyAll (s.linkQueues k).frames ≤ (s.link k).share
  latch : ∀ k c, LatchFollows s k c

/-- What every event keeps of the paths. -/
structure PathsInOrder (s : State) : Prop where
  idle : ConfiguringIdle s
  whole : PathsWhole s
  fits : ∀ r, RouteFits s r
  frames : FramesInOrder s

theorem PathsLawful.whole {s : State} (h : PathsLawful s) : PathsWhole s := by
  obtain ⟨bound, -, drains, empty, used, frames, -⟩ := h
  have drains : ∀ r k, s.drainsOn r k → s.carries r k := fun r k h => by
    unfold State.drainsOn at h
    cases e : (s.route r).draining with
    | none => rw [e] at h; cases h
    | some d =>
      obtain ⟨j, d⟩ := d
      obtain rfl : j = k := by simpa [e] using h
      exact (s.routeFrames_pos r j).1 (drains r j d e)
  refine ⟨⟨fun r k h => by rw [(bound r k h).1]; rfl, fun r k h => .inl (drains r k h), fun r k h => ?_, fun k h => ?_,
    fun k h => ?_⟩, fun r k h => (bound r k h).1, drains⟩
  · obtain ⟨c, f, hf, route⟩ := h
    obtain ⟨-, -, -, -, -, -, -, q, hq, path⟩ := frames k c f hf
    obtain rfl : r = q := Option.some.inj (route.symm.trans hq)
    exact path.imp_right .inl
  · by_contra out
    rw [not_or] at out
    exact (s.queuedOn_eq_zero k).1 (empty k out.1 out.2) h
  · have pos := used k h
    by_cases serves : s.serves k
    · exact .inl serves
    · refine .inr (.inl ?_)
      by_contra unloaded
      rw [(s.boundRoutes_eq_zero k).2 serves, (s.queuedOn_eq_zero k).2 unloaded] at pos
      cases pos

theorem PathsLawful.fits {s : State} (h : PathsLawful s) (r : RouteId) : RouteFits s r :=
  routeWithin_iff.2 ⟨fun k hk => (h.1 r k hk).2, fun kind k hk => h.2.1 r kind k hk⟩

/-- The parts make up the law of the paths. -/
theorem PathsInOrder.lawful {s : State} (g : PathsInOrder s) : PathsLawful s := by
  obtain ⟨-, whole, fits, frames⟩ := g
  refine ⟨fun r k h => ⟨whole.bound r k h, fits r k (.inl h)⟩, fun r kind k h => (routeWithin_iff.1 (fits r)).2 kind k h,
    fun r k d h => (s.routeFrames_pos r k).2 (whole.drains r k (by rw [State.drainsOn, h]; rfl)), fun k active retiring => ?_,
    fun k active => ?_, fun k c f hf => ?_, frames.share⟩
  · rw [s.queuedOn_eq_zero]
    exact fun h => (whole.sound.loaded k h).elim active retiring
  · rcases whole.sound.used k active with h | h | h
    · have := mt (s.boundRoutes_eq_zero k).1 (not_not.2 h)
      omega
    · have := mt (s.queuedOn_eq_zero k).1 (not_not.2 h)
      omega
    · exact h.elim
  · obtain ⟨h1, h2, h3, h4, h5, h6, h7, r, route⟩ := frames.frame k c f hf
    refine ⟨h1, h2, h3, h4, h5, h6, h7, r, route, ?_⟩
    exact ((whole.sound.but r).carried r k ⟨c, f, hf, route⟩).imp_right fun h => h.elim id fun h => h.2.elim

theorem PathsInOrder.latches {s : State} (g : PathsInOrder s) : LatchesLawful s := fun k c => (g.frames.latch k c).2

/-- Lawful paths, shares and latches are in order. -/
theorem pathsInOrder_of_lawful {s : State} (idle : ConfiguringIdle s) (paths : PathsLawful s) (latches : LatchesLawful s)
    (links : LinksLawful s) : PathsInOrder s := by
  obtain ⟨-, -, -, -, -, frames, shares⟩ := id paths
  refine ⟨idle, paths.whole, paths.fits, ⟨fun k c f hf => ?_, shares, fun k c => ⟨?_, latches k c⟩⟩⟩
  · obtain ⟨h1, h2, h3, h4, h5, h6, h7, r, route, -⟩ := frames k c f hf
    exact ⟨h1, h2, h3, h4, h5, h6, h7, r, route⟩
  · obtain ⟨-, -, -, -, marks, -⟩ := links.1 k
    exact (marks c).2.1

/-! ### What the laws do not speak of -/

/-- The state with everything blanked that the laws of the paths, of OPEN contexts and of closing sessions do not speak of. -/
def State.pathView (s : State) : State :=
  { State.reset with zone := s.zone, links := s.links, routes := s.routes, sessions := s.sessions, bearerMap := s.bearerMap,
                     queues := s.queues, pool := s.pool, slots := s.slots, openList := s.openList, service := s.service }

theorem pathsInOrder_pathView (s : State) : PathsInOrder s.pathView ↔ PathsInOrder s :=
  ⟨fun g => ⟨g.idle, ⟨⟨g.whole.1.1, g.whole.1.2, g.whole.1.3, g.whole.1.4, g.whole.1.5⟩, g.whole.2, g.whole.3⟩, g.fits,
      ⟨g.frames.1, g.frames.2, g.frames.3⟩⟩,
    fun g => ⟨g.idle, ⟨⟨g.whole.1.1, g.whole.1.2, g.whole.1.3, g.whole.1.4, g.whole.1.5⟩, g.whole.2, g.whole.3⟩, g.fits,
      ⟨g.frames.1, g.frames.2, g.frames.3⟩⟩⟩

theorem PathsInOrder.of_view {s t : State} (g : PathsInOrder s) (same : t.pathView = s.pathView) : PathsInOrder t :=
  (pathsInOrder_pathView t).1 (same ▸ (pathsInOrder_pathView s).2 g)

/-! ### Moves that keep the laws -/

theorem occupancyAll_le {a b : PerClass (List Frame)} (h : ∀ c, (a.get c).Sublist (b.get c)) :
    occupancyAll a ≤ occupancyAll b :=
  Nat.add_le_add (Nat.add_le_add (Nat.add_le_add (occupancy_sublist (h .c0)) (occupancy_sublist (h .c1)))
    (occupancy_sublist (h .c2))) (occupancy_sublist (h .c3))

theorem PathsWhole.moved {s t : State} (w : PathsWhole s) (m : SoundMove s t) : PathsWhole t where
  sound := m.sound
  bound r k h := by
    refine m.active_of_bound ?_ h
    rcases m.moved.bound r k h with b | ⟨ready, -⟩
    · rw [State.ready, w.bound r k b]; rfl
    · exact ready
  drains r k h := by
    rcases (m.sound.but r).drained r k h with c | f | ⟨-, ⟨⟩⟩
    · exact c
    · have f := (m.moved.failed k).1 f
      have loaded : s.loaded k := ((m.moved.drains r k h).elim (w.drains r k) id).loaded
      rcases w.sound.loaded k loaded with l | l <;> rw [f] at l <;> cases l

theorem FramesInOrder.moved {s t : State} (g : FramesInOrder s) (m : Moved s t)
    (seated : ∀ k c, ∀ f ∈ (t.linkQueues k).frames.get c, (s.session f.session).isSome = true →
      (t.session f.session).isSome = true) : FramesInOrder t where
  frame k c f hf := by
    obtain ⟨h1, h2, h3, h4, h5, h6, h7, h8⟩ := g.frame k c f ((m.frames k c).subset hf)
    exact ⟨h1, h2, h3, h4, h5, h6, seated k c f hf h7, h8⟩
  share k := by rw [m.share]; exact (occupancyAll_le (m.frames k)).trans (g.share k)
  latch k c := m.latch k c (g.latch k c)

theorem offPaths_sessions {s t : State} (off : t.offPaths = s.offPaths) : t.sessions = s.sessions := by
  rw [State.offPaths_eq off]

theorem offPaths_service {s t : State} (off : t.offPaths = s.offPaths) : t.service = s.service := by
  rw [State.offPaths_eq off]

theorem offPaths_session {s t : State} (off : t.offPaths = s.offPaths) (h : Nat) : t.session h = s.session h := by
  rw [State.session, offPaths_sessions off]; rfl

/-- A move of the route unit in SERVING. -/
theorem PathsInOrder.moved {s t : State} (g : PathsInOrder s) (m : SoundMove s t) (off : t.offPaths = s.offPaths)
    (serving : s.service = .serving) : PathsInOrder t where
  idle h := by
    rw [offPaths_service off, serving] at h
    cases h
  whole := g.whole.moved m
  fits r := m.moved.routeFits (g.fits r)
  frames := by
    refine g.frames.moved m.moved fun k c f _ h => ?_
    rwa [offPaths_session off]

/-- An answer that the route unit gives in SERVING alone. -/
theorem PathsInOrder.told {s t : State} (g : PathsInOrder s) (off : t.offPaths = s.offPaths)
    (serving : s.service = .serving → SoundMove s t) (configuring : s.service = .configuring → t = s) : PathsInOrder t := by
  cases h : s.service with
  | serving => exact g.moved (serving h) off h
  | configuring => rw [configuring h]; exact g

theorem inServing_configuring {f : State → State} {s : State} (h : s.service = .configuring) : inServing f s = s := by
  simp only [inServing, h]

theorem inServing_serving {f : State → State} {s : State} (h : s.service = .serving) : inServing f s = f s := by
  simp only [inServing, h]

/-- A link's record is written, but for its share and its marks. -/
theorem FramesInOrder.setLink {s : State} (g : FramesInOrder s) (k : LinkId) (l : Link) (share : l.share = (s.link k).share)
    (marks : l.marks = (s.link k).marks) : FramesInOrder (s.setLink k l) := by
  have same : ∀ j, ((s.setLink k l).link j).share = (s.link j).share ∧ ((s.setLink k l).link j).marks = (s.link j).marks := by
    intro j
    rw [State.link_setLink]
    split
    · next here => rw [share, marks, here]; exact ⟨rfl, rfl⟩
    · exact ⟨rfl, rfl⟩
  refine ⟨g.frame, fun j => ?_, fun j c => ?_⟩
  · rw [(same j).1]; exact g.share j
  · unfold LatchFollows
    rw [(same j).2]
    exact g.latch j c

/-- A link's record is written, but for its state, its share and its marks. -/
theorem PathsInOrder.setLink {s : State} (g : PathsInOrder s) (k : LinkId) (l : Link) (state : l.state = (s.link k).state)
    (share : l.share = (s.link k).share) (marks : l.marks = (s.link k).marks) : PathsInOrder (s.setLink k l) := by
  have m : Moved s (s.setLink k l) :=
    .setLink s k l share marks (fun h => by rwa [State.ready, ← state]) (fun h => by rwa [← state]) (by rw [state])
  have states : ∀ j, ((s.setLink k l).link j).state = (s.link j).state := fun j => by
    rw [State.link_setLink]
    split
    · next here => rw [state, here]
    · rfl
  have sound : PathsSound (s.setLink k l) := PathsBut.congr g.whole.sound states (fun _ => rfl) (fun _ => rfl) rfl
  exact ⟨g.idle, g.whole.moved ⟨sound, m⟩, fun r => m.routeFits (g.fits r), g.frames.setLink k l share marks⟩

/-- A link that is neither ACTIVE nor RETIRING is out of use: no route is bound to it or drains on it, and it holds no frame. -/
theorem PathsWhole.out_of_use {s : State} (w : PathsWhole s) {k : LinkId} (active : (s.link k).state ≠ .active)
    (retiring : (s.link k).state ≠ .retiring) : ¬s.serves k ∧ ¬s.loaded k ∧ ∀ r, ¬s.drainsOn r k := by
  have unloaded : ¬s.loaded k := fun h => (w.sound.loaded k h).elim active retiring
  exact ⟨fun ⟨r, h⟩ => active (w.bound r k h), unloaded, fun r h => unloaded (w.drains r k h).loaded⟩

theorem occupancy_of_unloaded {s : State} {k : LinkId} (h : ¬s.loaded k) (c : TrafficClass) :
    occupancy ((s.linkQueues k).frames.get c) = 0 := by
  have empty : (s.linkQueues k).frames.get c = [] := by by_contra e; exact h ⟨c, e⟩
  rw [empty]; rfl

theorem occupancyAll_of_unloaded {s : State} {k : LinkId} (h : ¬s.loaded k) : occupancyAll (s.linkQueues k).frames = 0 := by
  have all := occupancy_of_unloaded h
  show occupancy ((s.linkQueues k).frames.get .c0) + occupancy ((s.linkQueues k).frames.get .c1)
    + occupancy ((s.linkQueues k).frames.get .c2) + occupancy ((s.linkQueues k).frames.get .c3) = 0
  simp only [all]

/-- The record of a link that is out of use is written, and leaves it out of use. -/
theorem PathsInOrder.setIdleLink {s : State} (g : PathsInOrder s) (k : LinkId) (l : Link)
    (active : (s.link k).state ≠ .active) (retiring : (s.link k).state ≠ .retiring) (idle : l.state ≠ .active)
    (marks : ∀ c, (l.marks.get c).low < (l.marks.get c).high) : PathsInOrder (s.setLink k l) := by
  obtain ⟨unserved, unloaded, undrained⟩ := g.whole.out_of_use active retiring
  have links : ∀ j, j ≠ k → (s.setLink k l).link j = s.link j := fun j h => s.link_setLink_ne h l
  refine ⟨g.idle, ⟨?_, fun r j h => ?_, g.whole.drains⟩, g.fits, ⟨g.frames.frame, fun j => ?_, fun j c => ?_⟩⟩
  · exact PathsBut.setLink g.whole.sound k l (fun h => absurd h unserved) (fun q h => absurd h (undrained q))
      (fun h => absurd h unloaded) (fun h => absurd h idle) fun _ _ => id
  · rw [links j fun e => unserved ⟨r, e ▸ h⟩]
    exact g.whole.bound r j h
  · by_cases here : j = k
    · subst j
      show occupancyAll (s.linkQueues k).frames ≤ _
      rw [occupancyAll_of_unloaded unloaded]
      exact Nat.zero_le _
    · rw [links j here]; exact g.frames.share j
  · have latch := g.frames.latch j c
    unfold LatchFollows at latch ⊢
    by_cases here : j = k
    · subst j
      have queues : (s.setLink k l).linkQueues k = s.linkQueues k := rfl
      rw [occupancy_of_unloaded unloaded] at latch
      rw [queues, State.link_setLink_self, occupancy_of_unloaded unloaded]
      have lit := latch.2.1
      refine ⟨marks c, fun h => absurd (lit h) (Nat.not_lt_zero _), fun h => ?_⟩
      have := marks c
      omega
    · rw [links j here]; exact latch

/-- The same where share and marks are kept as well: a link out of use enters WARMING, STANDBY or OFF. -/
theorem PathsInOrder.setIdleLink_same {s : State} (g : PathsInOrder s) (k : LinkId) (l : Link)
    (active : (s.link k).state ≠ .active) (retiring : (s.link k).state ≠ .retiring) (idle : l.state ≠ .active)
    (marks : l.marks = (s.link k).marks) : PathsInOrder (s.setLink k l) :=
  g.setIdleLink k l active retiring idle fun c => marks ▸ (g.frames.latch k c).1

/-! ### The link manager's moves (R23 to R34) -/

theorem toldFitness_inOrder {s : State} (g : PathsInOrder s) (k : LinkId) : PathsInOrder (toldFitness k s) :=
  g.told (offPaths_toldFitness k s) (fun _ => toldFitness_sound g.whole.sound k) inServing_configuring

theorem rejudge_inOrder {s : State} (g : PathsInOrder s) (k : LinkId) : PathsInOrder (rejudge k s) := by
  have g1 : PathsInOrder (s.modifyLink k Link.rejudged) := g.setLink k _ rfl rfl rfl
  unfold rejudge
  dsimp only
  split
  · exact g1
  · exact toldFitness_inOrder g1 k

theorem enterWarming_inOrder {s : State} (g : PathsInOrder s) {k : LinkId}
    (out : (s.link k).state = .off ∨ (s.link k).state = .failed) : PathsInOrder (enterWarming k s) := by
  have g1 : PathsInOrder (s.modifyLink k (·.warmed s.now)) :=
    g.setIdleLink_same k _ (by rcases out with h | h <;> simp [h]) (by rcases out with h | h <;> simp [h]) nofun rfl
  unfold enterWarming
  dsimp only
  split
  · exact g1
  · exact toldFitness_inOrder g1 k

theorem toldOff_inOrder {s : State} (g : PathsInOrder s) (k : LinkId) : PathsInOrder (toldOff k s) :=
  g.told (offPaths_toldOff k s) (fun _ => toldOff_sound g.whole.sound k) inServing_configuring

theorem switchOff_inOrder {s : State} (g : PathsInOrder s) {k : LinkId} (active : (s.link k).state ≠ .active)
    (retiring : (s.link k).state ≠ .retiring) : PathsInOrder (switchOff k s) := by
  have g1 : PathsInOrder (enterOff k s) := g.setIdleLink_same k _ active retiring nofun rfl
  exact toldOff_inOrder g1 k

/-- A link has left use, RETIRING or FAILED: where no route is left bound to it, and none drains on it if it FAILED, the paths
are whole. -/
theorem PathsWhole.left {s u t : State} (w : PathsWhole s) {k : LinkId} (links : ∀ j, j ≠ k → u.link j = s.link j)
    (routes : u.routes = s.routes) (carries : ∀ r j, u.carries r j → s.carries r j) (m : SoundMove u t)
    (unbound : ∀ r, (t.route r).bound ≠ some k) (undrained : (t.link k).state = .failed → ∀ r, ¬t.drainsOn r k) :
    PathsWhole t where
  sound := m.sound
  bound r j h := by
    have other : j ≠ k := fun e => unbound r (e ▸ h)
    refine m.active_of_bound ?_ h
    rcases m.moved.bound r j h with b | ⟨ready, -⟩
    · rw [State.route, routes] at b
      rw [State.ready, links j other, w.bound r j b]; rfl
    · exact ready
  drains r j h := by
    rcases (m.sound.but r).drained r j h with c | f | ⟨-, ⟨⟩⟩
    · exact c
    · by_cases here : j = k
      · subst j; exact absurd h (undrained f r)
      · have f := (m.moved.failed j).1 f
        rw [links j here] at f
        have loaded : s.loaded j := by
          rcases m.moved.drains r j h with d | c
          · exact (w.drains r j (by rwa [State.drainsOn, State.route, routes] at d)).loaded
          · exact (carries r j c).loaded
        rcases w.sound.loaded j loaded with l | l <;> rw [f] at l <;> cases l

/-- While CONFIGURING no route is bound or drains. -/
theorem ConfiguringIdle.routes {s : State} (idle : ConfiguringIdle s) (h : s.service = .configuring) (r : RouteId) :
    (s.route r).bound = none ∧ (s.route r).swap = .idle ∧ (s.route r).draining = none := by
  obtain ⟨-, -, -, -, -, routes⟩ := idle h
  obtain ⟨bound, swap, draining, -⟩ := routes r
  exact ⟨bound, swap, draining⟩

/-- While CONFIGURING there is no session and no frame. -/
theorem ConfiguringIdle.frames {s : State} (idle : ConfiguringIdle s) (h : s.service = .configuring) :
    s.sessions = .empty ∧ s.pool = .all [] ∧ ∀ k, s.queuedOn k = 0 := by
  obtain ⟨sessions, -, pool, -, queues, -⟩ := idle h
  exact ⟨sessions, pool, queues⟩

theorem retire_inOrder {s : State} (g : PathsInOrder s) {k : LinkId} (active : (s.link k).state = .active) :
    PathsInOrder (retire k s) := by
  have serving : s.service = .serving := by
    cases h : s.service with
    | serving => rfl
    | configuring =>
      rcases g.whole.sound.used k active with ⟨r, b⟩ | l | l
      · rw [(g.idle.routes h r).1] at b; cases b
      · obtain ⟨-, -, queues⟩ := g.idle.frames h
        exact absurd l ((s.queuedOn_eq_zero k).1 (queues k))
      · exact l.elim
  obtain ⟨u, hu⟩ : ∃ u, u = s.modifyLink k fun l => { l with state := .retiring, lingerDeadline := none } := ⟨_, rfl⟩
  have links : ∀ j, j ≠ k → u.link j = s.link j := fun j h => by rw [hu]; exact s.link_setLink_ne h _
  have link : u.link k = { s.link k with state := .retiring, lingerDeadline := none } := by
    rw [hu]; exact s.link_setLink_self k _
  have sound : PathsSound u := by
    rw [hu]
    exact PathsBut.setLink g.whole.sound k _ (fun _ => rfl) (fun _ _ h => by rw [active] at h; cases h) (fun _ => .inr rfl) nofun
      fun _ _ => id
  have retiring : (u.link k).state = .retiring := by rw [link]
  have frames : FramesInOrder u := by rw [hu]; exact g.frames.setLink k _ rfl rfl
  have fits : ∀ r, RouteFits u r := by rw [hu]; exact g.fits
  have routes : u.routes = s.routes := by rw [hu]; rfl
  have carries : ∀ r j, u.carries r j → s.carries r j := by rw [hu]; exact fun _ _ => id
  have serving' : u.service = .serving := by rw [hu]; exact serving
  obtain ⟨m, unbound⟩ := toldRetired_sound sound retiring serving'
  have off : (judgeIdle k (toldRetired k u)).offPaths = u.offPaths := by simp
  have judged := judgeIdle_judged k (toldRetired k u)
  have n : SoundMove u (judgeIdle k (toldRetired k u)) :=
    m.trans ⟨judged.pathsBut (fun _ _ => id) m.sound, judged.moved⟩
  rw [show retire k s = judgeIdle k (toldRetired k u) by rw [hu]; rfl]
  generalize judgeIdle k (toldRetired k u) = t at *
  refine ⟨fun h => ?_, g.whole.left links routes carries n (fun r => ?_) fun f => ?_, fun r => n.moved.routeFits (fits r),
    frames.moved n.moved fun _ _ _ _ h => ?_⟩
  · rw [offPaths_service off, serving'] at h; cases h
  · rw [judged.bound]; exact (unbound r).2
  · rw [n.moved.failed, retiring] at f; cases f
  · rwa [offPaths_session off]

/-! ### A link fails (R30, R106) -/

theorem failureDiscard_frames (k j : LinkId) (c : TrafficClass) (s : State) :
    ((failureDiscard k s).linkQueues j).frames.get c = if j = k then [] else (s.linkQueues j).frames.get c := by
  have discarded := discardOnLink_frames k j (fun _ => true) (.failureLoss k) c s
  simp only [Bool.not_true, List.filter_false] at discarded
  rw [← discarded, failureDiscard, State.linkQueues_setLinkQueues]
  split
  · next here => rw [here]
  · rfl

theorem failureDiscard_links (k : LinkId) (s : State) :
    (failureDiscard k s).links = s.links ∧ (failureDiscard k s).routes = s.routes := by
  simp only [failureDiscard, State.setLinkQueues_links, State.setLinkQueues_routes]
  exact discardOnLink_links ..

theorem failureDiscard_loaded {k : LinkId} {s : State} {j : LinkId} :
    (failureDiscard k s).loaded j ↔ s.loaded j ∧ j ≠ k := by
  simp only [State.loaded, failureDiscard_frames]
  by_cases here : j = k <;> simp [here]

theorem failureDiscard_unloaded (k : LinkId) (s : State) : ¬(failureDiscard k s).loaded k := by
  rintro ⟨c, h⟩
  rw [failureDiscard_frames, if_pos rfl] at h
  exact h rfl

theorem failureDiscard_carries {k : LinkId} {s : State} {r : RouteId} {j : LinkId} :
    (failureDiscard k s).carries r j ↔ s.carries r j ∧ j ≠ k := by
  simp only [State.carries, failureDiscard_frames]
  by_cases here : j = k <;> simp [here]

/-- The loss of a link's frames leaves the others in order, and clears the link's latches (R30, R106). -/
theorem FramesInOrder.failureDiscard {s : State} (g : FramesInOrder s) (k : LinkId) : FramesInOrder (failureDiscard k s) := by
  have d : FramesInOrder (discardOnLink k (fun _ => true) (.failureLoss k) s) := by
    refine g.moved (discardOnLink_moved ..) fun _ _ _ _ h => ?_
    rwa [offPaths_session (offPaths_discardOnLink k (fun _ => true) (.failureLoss k) s)]
  have unloaded := failureDiscard_unloaded k s
  unfold Machine.failureDiscard at unloaded ⊢
  dsimp only at unloaded ⊢
  generalize discardOnLink k (fun _ => true) (.failureLoss k) s = t at *
  have frames : ∀ j, ((t.setLinkQueues k { t.linkQueues k with latch := .all false }).linkQueues j).frames
      = (t.linkQueues j).frames := fun j => by
    rw [State.linkQueues_setLinkQueues]
    split
    · next here => rw [here]
    · rfl
  refine ⟨fun j c f hf => d.frame j c f (by rwa [frames] at hf), fun j => by rw [frames]; exact d.share j, fun j c => ?_⟩
  have latch := d.latch j c
  by_cases here : j = k
  · subst j
    refine ⟨latch.1, fun lit => ?_, fun full => ?_⟩
    · rw [State.linkQueues_setLinkQueues_self] at lit
      exact absurd lit (by simp)
    · rw [occupancy_of_unloaded unloaded] at full
      have := latch.1
      exact absurd (Nat.lt_of_lt_of_le this full) (Nat.not_lt_zero _)
  · unfold LatchFollows
    rw [State.linkQueues_setLinkQueues_ne _ here]
    exact latch

/-- A link has failed and lost its frames: the paths are sound while the routes have yet to answer. -/
theorem PathsWhole.lost {s u : State} (w : PathsWhole s) {k : LinkId} (links : ∀ j, j ≠ k → u.link j = s.link j)
    (failed : (u.link k).state = .failed) (routes : u.routes = s.routes)
    (carries : ∀ r j, u.carries r j ↔ s.carries r j ∧ j ≠ k) (loaded : ∀ j, u.loaded j ↔ s.loaded j ∧ j ≠ k) :
    PathsSound u := by
  have route : ∀ r, u.route r = s.route r := fun r => by rw [State.route, State.route, routes]
  constructor
  case held =>
    intro r j h
    by_cases here : j = k
    · rw [here, failed]; rfl
    · rw [links j here, w.bound r j (by rwa [← route])]; rfl
  case drained =>
    intro r j h
    by_cases here : j = k
    · rw [here]; exact .inr (.inl failed)
    · exact .inl ((carries r j).2 ⟨w.drains r j (by rwa [State.drainsOn, ← route]), here⟩)
  case carried =>
    intro r j h
    rw [State.drainsOn, route]
    exact w.sound.carried r j ((carries r j).1 h).1
  case loaded =>
    intro j h
    obtain ⟨h, other⟩ := (loaded j).1 h
    rw [links j other]
    exact w.sound.loaded j h
  case used =>
    intro j h
    by_cases here : j = k
    · rw [here, failed] at h; cases h
    · rw [links j here] at h
      rcases w.sound.used j h with ⟨r, b⟩ | l | l
      · exact .inl ⟨r, by rwa [route]⟩
      · exact .inr (.inl ((loaded j).2 ⟨l, here⟩))
      · exact l.elim

theorem RouteWithin.fits_congr {s t : State} {r : RouteId} (h : RouteFits s r) (routes : t.routes = s.routes) (zone : t.zone = s.zone) :
    RouteFits t r := by
  have route : t.route r = s.route r := by rw [State.route, State.route, routes]
  intro k hk
  rw [route] at hk
  exact (State.allows_congr zone (by rw [route]) k).2 (h k hk)

/-- A state that is off the paths as an idle one was is idle, where in CONFIGURING its routes are the same and its queues no
longer. -/
theorem ConfiguringIdle.off {s t : State} (idle : ConfiguringIdle s) (off : t.offPaths = s.offPaths)
    (routes : s.service = .configuring → t.routes = s.routes) (loaded : ∀ k, t.loaded k → s.loaded k) : ConfiguringIdle t := by
  intro h
  rw [offPaths_service off] at h
  obtain ⟨sessions, bearers, pool, slots, queues, still⟩ := idle h
  have same := State.offPaths_eq off
  refine ⟨by rw [same]; exact sessions, by rw [same]; exact bearers, by rw [same]; exact pool, by rw [same]; exact slots,
    fun k => ?_, fun r => ?_⟩
  · rw [t.queuedOn_eq_zero]
    exact fun l => (s.queuedOn_eq_zero k).1 (queues k) (loaded k l)
  · have route : t.route r = s.route r := by rw [State.route, State.route, routes h]
    rw [route]
    exact still r

/-- Every route has answered a link's failure, in SERVING; in CONFIGURING there is none to answer. -/
theorem toldFailed_free {s u : State} (idle : ConfiguringIdle s) (off : u.offPaths = s.offPaths) (routes : u.routes = s.routes)
    {k : LinkId} (p : PathsSound u) (failed : (u.link k).state = .failed) :
    SoundMove u (toldFailed k u) ∧ ∀ r, FreeOfFailed k (toldFailed k u) r := by
  cases h : s.service with
  | serving => exact toldFailed_sound p failed ((offPaths_service off).trans h)
  | configuring =>
    rw [show toldFailed k u = u from inServing_configuring ((offPaths_service off).trans h)]
    refine ⟨.refl p, fun r => ⟨failed, ?_, ?_⟩⟩
    all_goals have idle := idle.routes h r
    · rw [State.route, routes]; exact fun e => by cases idle.1.symm.trans e
    · rw [State.drainsOn, State.route, routes]; exact fun e => by rw [show s.routes.get r = s.route r from rfl, idle.2.2] at e; cases e

theorem fail_inOrder {s : State} (g : PathsInOrder s) (k : LinkId) : PathsInOrder (fail k s) := by
  obtain ⟨v, hv⟩ : ∃ v, v = s.modifyLink k fun l => { l with state := .failed, warmUpDeadline := none, lingerDeadline := none } :=
    ⟨_, rfl⟩
  have linksV : ∀ j, j ≠ k → v.link j = s.link j := fun j h => by rw [hv]; exact s.link_setLink_ne h _
  have failedV : (v.link k).state = .failed := by rw [hv, State.link_modifyLink, if_pos rfl]
  have framesV : FramesInOrder v := by rw [hv]; exact g.frames.setLink k _ rfl rfl
  have fitsV : ∀ r, RouteFits v r := by rw [hv]; exact g.fits
  have routesV : v.routes = s.routes := by rw [hv]; rfl
  have carriesV : ∀ r j, v.carries r j ↔ s.carries r j := by rw [hv]; exact fun _ _ => Iff.rfl
  have loadedV : ∀ j, v.loaded j ↔ s.loaded j := by rw [hv]; exact fun _ => Iff.rfl
  have idleV : ConfiguringIdle v := by rw [hv]; exact g.idle
  have offV : v.offPaths = s.offPaths := by rw [hv]; rfl
  rw [show fail k s = (toldFailed k (failureDiscard k v)).raise .lp .linkFailed k.val by rw [hv]; rfl]
  clear hv
  have link : ∀ j, (failureDiscard k v).link j = v.link j := fun j => by
    rw [State.link, State.link, (failureDiscard_links k v).1]
  have routes := (failureDiscard_links k v).2
  have carries : ∀ r j, (failureDiscard k v).carries r j ↔ s.carries r j ∧ j ≠ k := fun r j => by
    rw [failureDiscard_carries, carriesV]
  have loaded : ∀ j, (failureDiscard k v).loaded j ↔ s.loaded j ∧ j ≠ k := fun j => by
    rw [failureDiscard_loaded, loadedV]
  have frames := framesV.failureDiscard k
  have off := offPaths_failureDiscard k v
  have fits : ∀ r, RouteFits (failureDiscard k v) r := fun r => (fitsV r).fits_congr routes (by rw [State.offPaths_eq off])
  generalize failureDiscard k v = u at *
  have failed : (u.link k).state = .failed := by rw [link, failedV]
  have links : ∀ j, j ≠ k → u.link j = s.link j := fun j h => (link j).trans (linksV j h)
  have sound := g.whole.lost links failed (routes.trans routesV) carries loaded
  obtain ⟨m, free⟩ := toldFailed_free g.idle (off.trans offV) (routes.trans routesV) sound failed
  have off' := (offPaths_toldFailed k u).trans (off.trans offV)
  have rest : s.service = .configuring → toldFailed k u = u := fun h =>
    inServing_configuring ((offPaths_service (off.trans offV)).trans h)
  generalize toldFailed k u = t at *
  refine PathsInOrder.of_view (s := t) ⟨fun h => ?_, ?_, ?_, ?_⟩ rfl
  · refine g.idle.off off' (fun h => ?_) (fun j l => ((loaded j).1 (m.moved.loaded l)).1) h
    rw [rest h, routes, routesV]
  · exact g.whole.left links (routes.trans routesV) (fun r j h => ((carries r j).1 h).1) m (fun r => (free r).2.1) fun _ r => (free r).2.2
  · exact fun r => m.moved.routeFits (fits r)
  · exact frames.moved m.moved fun _ _ _ _ h => by rwa [offPaths_session off', ← offPaths_session (off.trans offV)]

end Sys2Proof.Machine
end

section
/-! SUPPORT. Contexts: what the account unit leaves of them, that the open list lists them, and that a session's closing leaves it
none (06, R77, R112). -/

namespace Sys2Proof.Machine

/-! ### What handing a charge on leaves alone -/

/-- The state with the accounts, the sessions and the occurrences blanked: all that applying a charge can write. -/
def State.offCharge (s : State) : State := { s with accounts := .empty, sessions := .empty, raised := [] }

theorem offCharge_slots {s t : State} (h : t.offCharge = s.offCharge) : t.slots = s.slots ∧ t.openList = s.openList :=
  ⟨show t.offCharge.slots = s.offCharge.slots by rw [h], show t.offCharge.openList = s.offCharge.openList by rw [h]⟩

theorem offCharge_fold {β : Type} {f : State → β → State} (h : ∀ s x, (f s x).offCharge = s.offCharge) (l : List β)
    (s : State) : (l.foldl f s).offCharge = s.offCharge :=
  foldl_rel (R := fun s t : State => t.offCharge = s.offCharge) (fun _ => rfl) (fun h k => k.trans h) h l s

@[simp] theorem offCharge_setAccount (a : Nat) (x : Account) (s : State) : (s.setAccount a x).offCharge = s.offCharge := rfl
@[simp] theorem offCharge_modifyAccount (a : Nat) (f : Account → Account) (s : State) :
    (s.modifyAccount a f).offCharge = s.offCharge := rfl
@[simp] theorem offCharge_setSession (h : Nat) (x : Option Session) (s : State) :
    (s.setSession h x).offCharge = s.offCharge := rfl
@[simp] theorem offCharge_raise (p : Port) (k : NoticeKind) (n : Nat) (s : State) :
    (s.raise p k n).offCharge = s.offCharge := rfl

@[simp] theorem offCharge_setCause (h : Nat) (c : Cause) (v : Bool) (s : State) :
    (setCause h c v s).offCharge = s.offCharge := by
  unfold setCause addCause removeCause State.modifySession State.raiseRestricted
  split
  · split
    · rfl
    · dsimp only
      repeat' split
      all_goals rfl
  · split <;> rfl

@[simp] theorem offCharge_handFunds (a : Nat) (v : Bool) (s : State) : (handFunds a v s).offCharge = s.offCharge :=
  offCharge_fold (fun s h => by repeat' split
                                all_goals simp) _ s

@[simp] theorem offCharge_evaluateRoaming (h : Nat) (s : State) : (evaluateRoaming h s).offCharge = s.offCharge := by
  unfold evaluateRoaming
  split <;> simp

@[simp] theorem offCharge_evaluateAllRoaming (s : State) : (evaluateAllRoaming s).offCharge = s.offCharge :=
  offCharge_fold (fun s h => offCharge_evaluateRoaming h s) _ s

@[simp] theorem offCharge_judgeFlags (notices : Bool) (a : Nat) (s : State) :
    (judgeFlags notices a s).offCharge = s.offCharge := by
  unfold judgeFlags
  dsimp only
  repeat' split
  all_goals simp

@[simp] theorem offCharge_applyCharge (a c : Nat) (s : State) : (applyCharge a c s).offCharge = s.offCharge := by
  unfold applyCharge
  split <;> simp

@[simp] theorem offCharge_unrecordedUse (a : Nat) (d : Direction) (n c : Nat) (s : State) :
    (unrecordedUse a d n c s).offCharge = s.offCharge := by simp [unrecordedUse]

/-! ### The open list -/

/-- The slots are in rising order, every OPEN context stands in the open list, and a session has at most one of a class (R112,
R116). -/
structure ContextsOpen (s : State) : Prop where
  rising : s.slots.keys.Pairwise (· < ·)
  listed : ∀ i e, s.openContext i = some e → i ∈ s.openList
  apart : ∀ i j x y, s.openContext i = some x → s.openContext j = some y → x.1.session = y.1.session → x.1.cls = y.1.cls → i = j

theorem openContext_congr {s t : State} {i : Nat} (h : t.slot i = s.slot i) : t.openContext i = s.openContext i := by
  unfold State.openContext
  rw [h]

theorem slot_congr {s t : State} (h : t.slots = s.slots) (i : Nat) : t.slot i = s.slot i := by rw [State.slot, h]; rfl

theorem contextsOpen_of_lawful {s : State} (tables : TablesCanonical s) (contexts : ContextsListed s) : ContextsOpen s := by
  obtain ⟨-, -, slots, -⟩ := tables
  obtain ⟨-, -, listed, -, apart, -⟩ := contexts
  exact ⟨((Table.wf_iff _ _).1 slots).1, fun i e h => (listed i).2 (by rw [h]; rfl),
    fun i j x y hx hy => apart i j x.1 y.1 x.2 y.2 hx hy⟩

theorem ContextsOpen.of_same {s t : State} (c : ContextsOpen s) (slots : t.slots = s.slots) (openList : t.openList = s.openList) :
    ContextsOpen t := by
  have same : ∀ i, t.openContext i = s.openContext i := fun i => openContext_congr (slot_congr slots i)
  refine ⟨by rw [slots]; exact c.rising, fun i e h => ?_, fun i j x y hx hy => ?_⟩
  · rw [openList]; exact c.listed i e (by rwa [← same])
  · exact c.apart i j x y (by rwa [← same]) (by rwa [← same])

theorem ContextsOpen.offCharge {s t : State} (c : ContextsOpen s) (h : t.offCharge = s.offCharge) : ContextsOpen t :=
  c.of_same (offCharge_slots h).1 (offCharge_slots h).2

/-- OPEN contexts may cease to be, the others being listed still. -/
theorem ContextsOpen.fewer {s t : State} (c : ContextsOpen s) (rising : t.slots.keys.Pairwise (· < ·))
    (fewer : ∀ i e, t.openContext i = some e → s.openContext i = some e ∧ (i ∈ s.openList → i ∈ t.openList)) : ContextsOpen t :=
  ⟨rising, fun i e h => (fewer i e h).2 (c.listed i e (fewer i e h).1),
    fun i j x y hx hy => c.apart i j x y (fewer i x hx).1 (fewer j y hy).1⟩

/-- The OPEN context that a slot holds. -/
def Slot.openPart : Slot → Option (Context × Nat)
  | .opened x d => some (x, d)
  | .sealed _ _ _ _ => none

theorem State.openContext_eq (s : State) (i : Nat) : s.openContext i = (s.slot i).bind Slot.openPart := by
  unfold State.openContext
  split <;> next h => rw [h]; rfl

theorem State.openContext_setSlot (s : State) (i j : Nat) (v : Option Slot) :
    (s.setSlot i v).openContext j = if j = i then v.bind Slot.openPart else s.openContext j := by
  split
  · next h =>
    subst j
    rw [State.openContext_eq, State.slot_setSlot_self]
  · next h => exact openContext_congr (s.slot_setSlot_ne h v)

/-! ### Closing a context (R122) -/

theorem handOver_slot_ne {i j : Nat} (h : j ≠ i) (x : Context) (why : CloseReason) (r : ChargeRecord) (s : State) :
    (handOver i x why r s).slot j = s.slot j := by
  unfold handOver
  split <;> exact s.slot_setSlot_ne h _

theorem handOver_openContext (i : Nat) (x : Context) (why : CloseReason) (r : ChargeRecord) (s : State) :
    (handOver i x why r s).openContext i = none := by
  unfold handOver
  split
  · exact (s.openContext_setSlot i i none).trans (if_pos rfl)
  · exact (s.openContext_setSlot i i (some (.sealed x why s.stamp r))).trans (if_pos rfl)

theorem handOver_openList (i : Nat) (x : Context) (why : CloseReason) (r : ChargeRecord) (s : State) :
    (handOver i x why r s).openList = s.openList ∧
      (s.slots.keys.Pairwise (· < ·) → (handOver i x why r s).slots.keys.Pairwise (· < ·)) := by
  unfold handOver
  split <;> exact ⟨rfl, s.slots.put_rising i _⟩

/-- What closing leaves: the slot holds no OPEN context, and every other slot is as it was. -/
structure SlotClosed (i : Nat) (s t : State) : Prop where
  rising : s.slots.keys.Pairwise (· < ·) → t.slots.keys.Pairwise (· < ·)
  closed : t.openContext i = none
  slot : ∀ j, j ≠ i → t.slot j = s.slot j
  listed : ∀ j, j ≠ i → j ∈ s.openList → j ∈ t.openList
  unopened : s.openContext i = none → t = s

theorem closeContext_closed (why : CloseReason) (i : Nat) (s : State) : SlotClosed i s (closeContext why i s) := by
  unfold closeContext
  cases e : s.openContext i with
  | none => exact ⟨id, e, fun _ _ => rfl, fun _ _ => id, fun _ => rfl⟩
  | some open' =>
    obtain ⟨x, d⟩ := open'
    obtain ⟨slots, openList⟩ := offCharge_slots (offCharge_applyCharge x.account x.roundingUnit s)
    dsimp only
    generalize applyCharge x.account x.roundingUnit s = u at *
    refine ⟨fun h => (handOver_openList ..).2 (by rw [← slots] at h; exact h), handOver_openContext .., fun j hj => ?_,
      fun j hj hm => ?_, fun h => by rw [e] at h; cases h⟩
    · rw [handOver_slot_ne hj]
      exact slot_congr slots j
    · rw [(handOver_openList ..).1]
      show j ∈ u.openList.filter _
      rw [openList]
      exact List.mem_filter.2 ⟨hm, decide_eq_true hj⟩

theorem SlotClosed.openContext {i : Nat} {s t : State} (c : SlotClosed i s t) (j : Nat) :
    t.openContext j = if j = i then none else s.openContext j := by
  split
  · next h => rw [h]; exact c.closed
  · next h => exact openContext_congr (c.slot j h)

theorem SlotClosed.contextsOpen {i : Nat} {s t : State} (c : SlotClosed i s t) (h : ContextsOpen s) : ContextsOpen t := by
  refine h.fewer (c.rising h.rising) fun j e hj => ?_
  rw [c.openContext] at hj
  split at hj
  · cases hj
  · next ne => exact ⟨hj, c.listed j ne⟩

theorem closeContext_contextsOpen {s : State} (h : ContextsOpen s) (why : CloseReason) (i : Nat) :
    ContextsOpen (closeContext why i s) := (closeContext_closed why i s).contextsOpen h

/-! ### Metering a frame (R115 to R121) -/

/-- An OPEN context is rewritten, of the same session and class. -/
theorem ContextsOpen.rewrite {s : State} (c : ContextsOpen s) {i : Nat} {x y : Context} {d : Nat}
    (h : s.openContext i = some (x, d)) (same : y.session = x.session ∧ y.cls = x.cls) :
    ContextsOpen (s.setSlot i (some (.opened y d))) := by
  have key : ∀ j e, (s.setSlot i (some (.opened y d))).openContext j = some e →
      ∃ e', s.openContext j = some e' ∧ e'.1.session = e.1.session ∧ e'.1.cls = e.1.cls := by
    intro j e hj
    rw [State.openContext_setSlot] at hj
    split at hj
    · next here =>
      cases hj
      exact ⟨_, here ▸ h, same.1.symm, same.2.symm⟩
    · exact ⟨e, hj, rfl, rfl⟩
  refine ⟨s.slots.put_rising i _ c.rising, fun j e hj => ?_, fun j k e f he hf hs hc => ?_⟩
  · obtain ⟨e', hj, -⟩ := key j e hj
    exact c.listed j e' hj
  · obtain ⟨e', he, es, ec⟩ := key j e he
    obtain ⟨f', hf, fs, fc⟩ := key k f hf
    exact c.apart j k e' f' he hf (by rw [es, fs, hs]) (by rw [ec, fc, hc])

theorem Context.rateFrame_same (x : Context) (d : Direction) (n : Nat) :
    (x.rateFrame d n).1.session = x.session ∧ (x.rateFrame d n).1.cls = x.cls := by
  cases d <;> exact ⟨rfl, rfl⟩

theorem rateInSlot_contextsOpen {s : State} (c : ContextsOpen s) (i : Nat) (d : Direction) (n : Nat) :
    ContextsOpen (rateInSlot i d n s) := by
  unfold rateInSlot
  split
  · exact c
  · next x deadline h =>
    have c1 := c.rewrite h (x.rateFrame_same d n)
    have c2 := c1.offCharge (offCharge_applyCharge (x.rateFrame d n).1.account (x.rateFrame d n).2 _)
    dsimp only
    split
    · exact closeContext_contextsOpen c2 _ _
    · exact c2

/-- The session of a class has no OPEN context. -/
def State.NoneOpen (s : State) (h : Nat) (c : TrafficClass) : Prop :=
  ∀ i e, s.openContext i = some e → ¬(e.1.session = h ∧ e.1.cls = c)

theorem ContextsOpen.noneOpen {s : State} (o : ContextsOpen s) {h : Nat} {c : TrafficClass} (none : s.findOpen h c = none) :
    s.NoneOpen h c := by
  rintro i ⟨x, d⟩ hi mine
  have := List.find?_eq_none.1 none i (o.listed i _ hi)
  rw [hi] at this
  exact this (decide_eq_true mine)

theorem State.findOpen_some {s : State} {h : Nat} {c : TrafficClass} {i : Nat} (found : s.findOpen h c = some i) :
    ∃ x d, s.openContext i = some (x, d) ∧ x.session = h ∧ x.cls = c := by
  unfold State.findOpen at found
  have := List.find?_some found
  split at this
  · next x d e => exact ⟨x, d, e, of_decide_eq_true this⟩
  · cases this

theorem openSlot_contextsOpen {s : State} (o : ContextsOpen s) (i h : Nat) (x : Session) {c : TrafficClass}
    (none : s.NoneOpen h c) : ContextsOpen (openSlot i h x c s) := by
  have key : ∀ j e, (openSlot i h x c s).openContext j = some e →
      (j = i ∧ e.1.session = h ∧ e.1.cls = c) ∨ s.openContext j = some e := by
    intro j e hj
    have hj : (s.setSlot i _).openContext j = some e := hj
    rw [State.openContext_setSlot] at hj
    split at hj
    · next here => cases hj; exact .inl ⟨here, rfl, rfl⟩
    · exact .inr hj
  refine ⟨s.slots.put_rising i _ o.rising, fun j e hj => ?_, fun j k e f he hf hs hc => ?_⟩
  · rcases key j e hj with ⟨rfl, -⟩ | hj
    · exact List.mem_append_right _ List.mem_cons_self
    · exact List.mem_append_left _ (o.listed j e hj)
  · rcases key j e he with ⟨je, es, ec⟩ | je <;> rcases key k f hf with ⟨kf, fs, fc⟩ | kf
    · rw [je, kf]
    · exact absurd ⟨hs ▸ es, hc ▸ ec⟩ (none k f kf)
    · exact absurd ⟨hs.trans fs, hc.trans fc⟩ (none j e je)
    · exact o.apart j k e f je kf hs hc

theorem openAndRate_contextsOpen {s : State} (o : ContextsOpen s) (h : Nat) (x : Session) {c : TrafficClass}
    (none : s.NoneOpen h c) (d : Direction) (n : Nat) : ContextsOpen (openAndRate h x c d n s) := by
  unfold openAndRate
  split
  · exact rateInSlot_contextsOpen (openSlot_contextsOpen o _ h x none) _ d n
  · exact o.offCharge (offCharge_unrecordedUse ..)

theorem meterFrame_contextsOpen {s : State} (o : ContextsOpen s) (h : Nat) (c : TrafficClass) (d : Direction) (n : Nat) :
    ContextsOpen (meterFrame h c d n s) := by
  unfold meterFrame
  split
  · exact o
  · split
    · exact rateInSlot_contextsOpen o _ d n
    · next none =>
      have none := o.noneOpen none
      split
      · next oldest rest _ _ =>
        have closed := closeContext_closed .evict oldest s
        refine openAndRate_contextsOpen (closed.contextsOpen o) h _ (fun i e hi => ?_) d n
        rw [closed.openContext] at hi
        split at hi
        · cases hi
        · exact none i e hi
      · exact openAndRate_contextsOpen o h _ none d n

/-! ### The record queue's arbiter (R144) -/

theorem admitOne_contextsOpen {s : State} (o : ContextsOpen s) : ContextsOpen (admitOne s) := by
  unfold admitOne
  split
  · split
    · next i rest _ =>
      split
      · next x why at' record sealed =>
        refine o.fewer (s.slots.put_rising i none o.rising) fun j e hj => ?_
        have hj : (s.setSlot i none).openContext j = some e := hj
        rw [State.openContext_setSlot] at hj
        split at hj
        · cases hj
        · exact ⟨hj, id⟩
      all_goals exact o.of_same rfl rfl
    · split
      · exact o.of_same rfl rfl
      · exact o
  · exact o

end Sys2Proof.Machine
end

section
/-! SUPPORT. The end of closing: afterwards every closing session waits, and nothing has changed but sessions that no frame names,
contexts, accounts and records (R77, R78, R105). -/

namespace Sys2Proof.Machine

/-! ### Counts of contexts, read as existence -/

theorem State.openContexts_eq_zero {s : State} (rising : s.slots.keys.Pairwise (· < ·)) (h : Nat) :
    s.openContexts h = 0 ↔ ∀ i e, s.openContext i = some e → e.1.session ≠ h := by
  unfold State.openContexts
  rw [List.countP_eq_zero]
  constructor
  · rintro none i ⟨x, d⟩ hi mine
    have slot : s.slot i = some (.opened x d) := by
      unfold State.openContext at hi
      split at hi
      · next e => cases hi; exact e
      all_goals cases hi
    exact none (i, .opened x d) (Table.mem_of_get? slot) (Bool.and_eq_true_iff.2 ⟨decide_eq_true mine, rfl⟩)
  · rintro none ⟨i, v⟩ mem mine
    have slot : s.slot i = some v := Table.get?_of_mem rising mem
    cases v with
    | opened x d =>
      exact none i (x, d) (by rw [State.openContext, slot]) (of_decide_eq_true (Bool.and_eq_true_iff.1 mine).1)
    | sealed => cases (Bool.and_eq_true_iff.1 mine).2

theorem State.sealedContexts_pos {s : State} (rising : s.slots.keys.Pairwise (· < ·)) (h : Nat) :
    0 < s.sealedContexts h ↔ ∃ i v, s.slot i = some v ∧ v.session = h ∧ v.isOpen = false := by
  unfold State.sealedContexts
  rw [List.countP_pos_iff]
  constructor
  · rintro ⟨⟨i, v⟩, mem, mine⟩
    exact ⟨i, v, Table.get?_of_mem rising mem, by simpa using mine⟩
  · rintro ⟨i, v, slot, mine, sealed⟩
    exact ⟨(i, v), Table.mem_of_get? slot, by simp [mine, sealed]⟩

/-! ### A session's contexts closed (R77) -/

/-- What closing OPEN contexts of one session leaves: none of some classes, and every slot that held no OPEN context of the session. -/
structure SessionContextsClosed (h : Nat) (classes : List TrafficClass) (s t : State) : Prop where
  contexts : ContextsOpen t
  fewer : ∀ i e, t.openContext i = some e → s.openContext i = some e
  none : ∀ c ∈ classes, t.NoneOpen h c
  slot : ∀ i, (∀ e, s.openContext i = some e → e.1.session ≠ h) → t.slot i = s.slot i

theorem closeClasses_closed (h : Nat) (why : CloseReason) (classes : List TrafficClass) :
    ∀ s, ContextsOpen s → SessionContextsClosed h classes s (classes.foldl (fun s c =>
      match s.findOpen h c with
      | some i => closeContext why i s
      | none => s) s) := by
  induction classes with
  | nil => exact fun s o => ⟨o, fun _ _ => id, nofun, fun _ _ => rfl⟩
  | cons c l ih =>
    intro s o
    rw [List.foldl_cons]
    split
    · next i found =>
      obtain ⟨x, d, hi, session, cls⟩ := State.findOpen_some found
      have closed := closeContext_closed why i s
      have rest := ih _ (closed.contextsOpen o)
      have fewer : ∀ j e, (closeContext why i s).openContext j = some e → j ≠ i ∧ s.openContext j = some e := fun j e hj => by
        rw [closed.openContext] at hj
        split at hj
        · cases hj
        · next ne => exact ⟨ne, hj⟩
      refine ⟨rest.contexts, fun j e hj => (fewer j e (rest.fewer j e hj)).2, fun b hb => ?_, fun j hj => ?_⟩
      · rcases List.mem_cons.1 hb with rfl | hb
        · intro j e hj mine
          obtain ⟨ne, hj⟩ := fewer j e (rest.fewer j e hj)
          exact ne (o.apart j i e (x, d) hj hi (mine.1.trans session.symm) (mine.2.trans cls.symm))
        · exact rest.none b hb
      · have ne : j ≠ i := fun e => hj (x, d) (e ▸ hi) session
        rw [rest.slot j fun e he => hj e (fewer j e he).2, closed.slot j ne]
    · next none =>
      have rest := ih s o
      refine ⟨rest.contexts, rest.fewer, fun b hb => ?_, rest.slot⟩
      rcases List.mem_cons.1 hb with rfl | hb
      · exact fun j e hj => o.noneOpen none j e (rest.fewer j e hj)
      · exact rest.none b hb

theorem closeSessionContexts_closed {s : State} (o : ContextsOpen s) (h : Nat) (why : CloseReason) :
    SessionContextsClosed h allClasses s (closeSessionContexts h why s) := closeClasses_closed h why allClasses s o

theorem mem_allClasses (c : TrafficClass) : c ∈ allClasses := by cases c <;> decide

/-! ### What the end of closing leaves alone -/

/-- All that the end of closing can write. A session keeps everything but its causes, or is freed with no frame of it queued. -/
structure ClosingsRan (s t : State) : Prop where
  same : ∃ slots openList sealList accounts crq sessions raised,
    t = { s with slots := slots, openList := openList, sealList := sealList, accounts := accounts, crq := crq,
                 sessions := sessions, raised := raised }
  session : ∀ h, t.session h = s.session h ∨ (∃ x causes, s.session h = some x ∧ t.session h = some { x with causes := causes })
    ∨ (t.session h = none ∧ s.queuedFrames h = 0)

theorem MoneyFrame.closingsRan {s t : State} (m : MoneyFrame s t) : ClosingsRan s t :=
  ⟨m.same, fun h => (m.session h).imp_right .inl⟩

namespace ClosingsRan

variable {s t u : State}

theorem refl (s : State) : ClosingsRan s s := (MoneyFrame.refl s).closingsRan

theorem queuedFrames (m : ClosingsRan s t) (h : Nat) : t.queuedFrames h = s.queuedFrames h := by
  obtain ⟨_, _, _, _, _, _, _, rfl⟩ := m.same
  rfl

theorem trans (m : ClosingsRan s t) (n : ClosingsRan t u) : ClosingsRan s u where
  same := by
    obtain ⟨_, _, _, _, _, _, _, rfl⟩ := m.same
    obtain ⟨_, _, _, _, _, _, _, rfl⟩ := n.same
    exact ⟨_, _, _, _, _, _, _, rfl⟩
  session h := by
    rcases n.session h with hn | ⟨x, c, hx, hu⟩ | ⟨none, q⟩
    · rw [hn]; exact m.session h
    · rcases m.session h with hm | ⟨y, d, hy, ht⟩ | ⟨none, -⟩
      · exact .inr (.inl ⟨x, c, hm ▸ hx, hu⟩)
      · rw [ht] at hx
        obtain rfl := Option.some.inj hx
        exact .inr (.inl ⟨y, c, hy, hu⟩)
      · rw [none] at hx; cases hx
    · exact .inr (.inr ⟨none, by rw [← m.queuedFrames]; exact q⟩)

theorem free (s : State) {h : Nat} (q : s.queuedFrames h = 0) : ClosingsRan s (s.setSession h none) where
  same := ⟨_, _, _, _, _, _, _, rfl⟩
  session j := by
    by_cases here : j = h
    · subst j; exact .inr (.inr ⟨s.session_setSession_self h none, q⟩)
    · exact .inl (s.session_setSession_ne here none)

/-- A session that is there was there, in the same phase. -/
theorem session_some (m : ClosingsRan s t) {h : Nat} {y : Session} (hy : t.session h = some y) :
    ∃ x, s.session h = some x ∧ y.phase = x.phase := by
  rcases m.session h with e | ⟨x, c, hx, ht⟩ | ⟨none, -⟩
  · exact ⟨y, by rw [← e, hy], rfl⟩
  · rw [ht] at hy
    obtain rfl := Option.some.inj hy
    exact ⟨x, hx, rfl⟩
  · rw [none] at hy; cases hy

end ClosingsRan

/-! ### The end of closing -/

/-- A session, if it is CLOSING, waits for a frame of its own to leave, or, with no context OPEN, for a SEALED one (R77, R78). -/
def State.Waits (s : State) (h : Nat) : Prop :=
  ∀ x, s.session h = some x → x.phase.isClosing = true →
    0 < s.queuedFrames h ∨ (s.openContexts h = 0 ∧ 0 < s.sealedContexts h)

/-- What the end of one session's closing leaves. -/
structure ClosingEnded (h : Nat) (s t : State) : Prop where
  contexts : ContextsOpen t
  ran : ClosingsRan s t
  waits : t.Waits h
  others : ∀ j, s.Waits j → t.Waits j

/-- Contexts of one session closed leave every session waiting that did. -/
theorem SessionContextsClosed.waits {h : Nat} {classes : List TrafficClass} {s t u : State} (m : SessionContextsClosed h classes s t)
    (o : ContextsOpen s) (ran : ClosingsRan s u) (slots : u.slots = t.slots) {j : Nat} (w : s.Waits j) :
    u.Waits j := by
  intro y hy closing
  obtain ⟨x, hx, phase⟩ := ran.session_some hy
  have rising : u.slots.keys.Pairwise (· < ·) := by rw [slots]; exact m.contexts.rising
  rw [ran.queuedFrames]
  refine (w x hx (phase ▸ closing)).imp_right fun ⟨none, sealed⟩ => ⟨?_, ?_⟩
  · rw [State.openContexts_eq_zero rising]
    rw [State.openContexts_eq_zero o.rising] at none
    intro i e hi
    exact none i e (m.fewer i e (by rwa [← openContext_congr (slot_congr slots i)]))
  · rw [State.sealedContexts_pos rising]
    obtain ⟨i, v, slot, session, sealed⟩ := (State.sealedContexts_pos o.rising j).1 sealed
    refine ⟨i, v, ?_, session, sealed⟩
    rw [slot_congr slots, m.slot i fun e he => ?_, slot]
    rw [State.openContext, slot] at he
    cases v with
    | opened => cases sealed
    | sealed => cases he

theorem endClosing_ended {s : State} (o : ContextsOpen s) (h : Nat) : ClosingEnded h s (endClosing h s) := by
  have same (w : s.Waits h) : ClosingEnded h s s := ⟨o, .refl s, w, fun _ => id⟩
  unfold endClosing
  split
  · next none => exact same fun x hx => by rw [none] at hx; cases hx
  · next x hx =>
    split
    · next phase => exact same fun y hy c => by rw [hx] at hy; cases hy; rw [phase] at c; cases c
    · next phase => exact same fun y hy c => by rw [hx] at hy; cases hy; rw [phase] at c; cases c
    · next why phase =>
      split
      · next q =>
        have m := closeSessionContexts_closed o h why.reason
        have ran := (MoneyFrame.closeSessionContexts h why.reason s).closingsRan
        have q' := (ran.queuedFrames h).trans q
        have none : (closeSessionContexts h why.reason s).openContexts h = 0 := by
          rw [State.openContexts_eq_zero m.contexts.rising]
          exact fun i e hi mine => m.none e.1.cls (mem_allClasses _) i e hi ⟨mine, rfl⟩
        dsimp only
        generalize closeSessionContexts h why.reason s = t at *
        split
        · have ran' := ran.trans (.free t q')
          refine ⟨m.contexts.of_same rfl rfl, ran', fun y hy => ?_, fun j => m.waits o ran' rfl⟩
          rw [t.session_setSession_self] at hy
          cases hy
        · next left => exact ⟨m.contexts, ran, fun y hy _ => .inr ⟨none, by omega⟩, fun j => m.waits o ran rfl⟩
      · next q => exact same fun _ _ _ => .inl (Nat.pos_of_ne_zero q)

/-- The end of closing of some sessions: they wait afterwards, as do those that waited before. -/
theorem endClosings_ended (handles : List Nat) :
    ∀ s, ContextsOpen s → ContextsOpen (endClosings handles s) ∧ ClosingsRan s (endClosings handles s)
      ∧ ∀ h, h ∈ handles ∨ s.Waits h → (endClosings handles s).Waits h := by
  induction handles with
  | nil => exact fun s o => ⟨o, .refl s, fun h hh => hh.resolve_left (List.not_mem_nil)⟩
  | cons j l ih =>
    intro s o
    have m := endClosing_ended o j
    obtain ⟨contexts, ran, waits⟩ := ih _ m.contexts
    refine ⟨contexts, m.ran.trans ran, fun h hh => waits h ?_⟩
    by_cases here : h = j
    · subst h; exact .inr m.waits
    · rcases hh with hh | hh
      · exact .inl ((List.mem_cons.1 hh).resolve_left here)
      · exact .inr (m.others h hh)

/-- After the end of all closing every closing session waits (R105). -/
theorem endAllClosing_ended {s : State} (o : ContextsOpen s) :
    ClosingsRan s (endAllClosing s) ∧ ClosingsWait (endAllClosing s) := by
  obtain ⟨-, ran, waits⟩ := endClosings_ended s.sessions.keys s o
  refine ⟨ran, fun h x hx closing => waits h ?_ x hx closing⟩
  by_cases mem : h ∈ s.sessions.keys
  · exact .inl mem
  · refine .inr fun y hy => absurd ((Table.mem_keys_iff _ _).2 ?_) mem
    rw [show s.sessions.get? h = some y from hy]
    rfl

/-! ### Paths across the end of closing -/

theorem countFrames_pos {q : PerClass (List Frame)} {test : Frame → Bool} {c : TrafficClass} {f : Frame} (mem : f ∈ q.get c)
    (h : test f = true) : 0 < countFrames q test := by
  rw [Nat.pos_iff_ne_zero]
  intro zero
  rw [(countFrames_eq_zero q test).1 zero c f mem] at h
  cases h

/-- A session with a frame on a link has a frame queued. -/
theorem State.queuedFrames_pos {s : State} {k : LinkId} {c : TrafficClass} {f : Frame}
    (mem : f ∈ (s.linkQueues k).frames.get c) : 0 < s.queuedFrames f.session := by
  have here : 0 < countFrames (s.linkQueues k).frames fun g => decide (g.session = f.session) :=
    countFrames_pos mem (decide_eq_true rfl)
  have le : countFrames (s.linkQueues k).frames (fun g => decide (g.session = f.session))
      ≤ (allLinks.map fun k => countFrames (s.linkQueues k).frames fun g => g.session = f.session).sum :=
    List.single_le_sum (fun _ _ => Nat.zero_le _) _ (List.mem_map.2 ⟨k, mem_allLinks k, rfl⟩)
  unfold State.queuedFrames
  omega

theorem ClosingsRan.moved {s t : State} (m : ClosingsRan s t) : Moved s t := by
  obtain ⟨_, _, _, _, _, _, _, rfl⟩ := m.same
  exact .of_same rfl rfl rfl rfl

theorem ClosingsRan.soundMove {s t : State} (m : ClosingsRan s t) (p : PathsSound s) : SoundMove s t := by
  refine ⟨?_, m.moved⟩
  obtain ⟨_, _, _, _, _, _, _, rfl⟩ := m.same
  exact PathsBut.congr p (fun _ => rfl) (fun _ => rfl) (fun _ => rfl) rfl

theorem ClosingsRan.framesInOrder {s t : State} (m : ClosingsRan s t) (g : FramesInOrder s) : FramesInOrder t := by
  refine g.moved m.moved fun k c f hf seated => ?_
  have mem := (m.moved.frames k c).subset hf
  rcases m.session f.session with e | ⟨x, causes, -, ht⟩ | ⟨-, none⟩
  · rwa [e]
  · rw [ht]; rfl
  · exact absurd (State.queuedFrames_pos mem) (by omega)

end Sys2Proof.Machine
end

section
/-! SUPPORT. What holds of the paths inside an event and between events, and how an event ends: closings, notices, responses,
arbiters (R105, R149, R161, R162, R166). -/

namespace Sys2Proof.Machine

/-- What an event's effect leaves: the paths are in order and the OPEN contexts are listed. -/
structure InOrder (s : State) : Prop where
  paths : PathsInOrder s
  contexts : ContextsOpen s

/-- What holds between events: besides, every closing session waits. -/
structure Standing (s : State) : Prop extends InOrder s where
  waits : ClosingsWait s

theorem standing_of_lawful {s : State} (h : Lawful s) : Standing s := by
  obtain ⟨-, -, tables, contexts, links, -, -, -, -, -, -, idle, paths, latches, -, -, -, waits, -⟩ := h
  exact ⟨⟨pathsInOrder_of_lawful idle paths latches links, contextsOpen_of_lawful tables contexts⟩, waits⟩

theorem pathView_fields {s t : State} (same : t.pathView = s.pathView) :
    t.slots = s.slots ∧ t.openList = s.openList ∧ t.sessions = s.sessions ∧ t.service = s.service :=
  ⟨show t.pathView.slots = s.pathView.slots by rw [same], show t.pathView.openList = s.pathView.openList by rw [same],
    show t.pathView.sessions = s.pathView.sessions by rw [same], show t.pathView.service = s.pathView.service by rw [same]⟩

theorem InOrder.of_view {s t : State} (g : InOrder s) (same : t.pathView = s.pathView) : InOrder t :=
  ⟨g.paths.of_view same, g.contexts.of_same (pathView_fields same).1 (pathView_fields same).2.1⟩

theorem closingsWait_pathView (s : State) : ClosingsWait s.pathView ↔ ClosingsWait s := Iff.rfl

theorem Standing.of_view {s t : State} (g : Standing s) (same : t.pathView = s.pathView) : Standing t where
  toInOrder := g.toInOrder.of_view same
  waits := by
    have waits := (closingsWait_pathView s).2 g.waits
    rw [← same] at waits
    exact (closingsWait_pathView t).1 waits

/-! ### Effects of each kind -/

/-- Where there is a session, the service is SERVING. -/
theorem PathsInOrder.serving_of_session {s : State} (g : PathsInOrder s) {h : Nat} {x : Session} (hx : s.session h = some x) :
    s.service = .serving := by
  cases e : s.service with
  | serving => rfl
  | configuring =>
    rw [State.session, (g.idle e).1] at hx
    cases hx

/-- An effect on the paths alone. -/
theorem InOrder.on_paths {s t : State} (g : InOrder s) (off : t.offPaths = s.offPaths) (paths : PathsInOrder t) : InOrder t :=
  ⟨paths, g.contexts.of_same (by rw [State.offPaths_eq off]) (by rw [State.offPaths_eq off])⟩

/-- A move of the route unit in SERVING. -/
theorem InOrder.moved {s t : State} (g : InOrder s) (m : SoundMove s t) (off : t.offPaths = s.offPaths)
    (serving : s.service = .serving) : InOrder t := g.on_paths off (g.paths.moved m off serving)

theorem table_eq_empty {α : Type} {t : Table α} (h : ∀ k, t.get? k = none) : t = .empty := by
  obtain ⟨_ | ⟨⟨k, v⟩, l⟩⟩ := t
  · rfl
  · have := h k
    simp [Table.get?, Table.lookup] at this

theorem ClosingsRan.sessions_empty {s t : State} (m : ClosingsRan s t) (h : s.sessions = .empty) : t.sessions = .empty := by
  refine table_eq_empty fun k => ?_
  cases e : t.sessions.get? k with
  | none => rfl
  | some y =>
    obtain ⟨x, hx, -⟩ := m.session_some (h := k) e
    rw [State.session, h] at hx
    cases hx

/-- An effect of the meter, the account unit or the end of closing, which in CONFIGURING has no context to work on. -/
theorem InOrder.ran {s t : State} (g : InOrder s) (m : ClosingsRan s t) (contexts : ContextsOpen t)
    (still : s.service = .configuring → s.sessions = .empty → s.slots = .empty → t.slots = .empty) : InOrder t := by
  have move := m.soundMove g.paths.whole.sound
  refine ⟨⟨fun h => ?_, g.paths.whole.moved move, fun r => move.moved.routeFits (g.paths.fits r),
    m.framesInOrder g.paths.frames⟩, contexts⟩
  have service : t.service = s.service := by obtain ⟨_, _, _, _, _, _, _, rfl⟩ := m.same; rfl
  obtain ⟨h1, h2, h3, h4, h5, h6⟩ := g.paths.idle (service ▸ h)
  refine ⟨m.sessions_empty h1, ?_, ?_, still (service ▸ h) h1 h4, ?_, ?_⟩
  all_goals clear move contexts; obtain ⟨_, _, _, _, _, _, _, rfl⟩ := m.same
  exacts [h2, h3, h5, h6]

theorem InOrder.money {s t : State} (g : InOrder s) (m : MoneyFrame s t) (contexts : ContextsOpen t)
    (still : s.service = .configuring → s.sessions = .empty → s.slots = .empty → t.slots = .empty) : InOrder t :=
  g.ran m.closingsRan contexts still

/-- The state with the sessions, the bearer map, the pool and all that the laws do not speak of blanked. -/
def State.offSessions (s : State) : State :=
  { s.pathView with sessions := .empty, bearerMap := .empty, pool := .all [] }

theorem offSessions_pathView {s t : State} (off : t.offSessions = s.offSessions) :
    t.pathView = { s.pathView with sessions := t.sessions, bearerMap := t.bearerMap, pool := t.pool } := by
  have e := congrArg (fun u : State => { u with sessions := t.sessions, bearerMap := t.bearerMap, pool := t.pool }) off
  exact e

/-- An effect on sessions, bearers and pool frames in SERVING, in which no session is freed. -/
theorem InOrder.on_sessions {s t : State} (g : InOrder s) (off : t.offSessions = s.offSessions) (serving : s.service = .serving)
    (seated : ∀ h, (s.session h).isSome = true → (t.session h).isSome = true) : InOrder t := by
  obtain ⟨u, hu⟩ : ∃ u, u = { s with sessions := t.sessions, bearerMap := t.bearerMap, pool := t.pool } := ⟨_, rfl⟩
  have session : ∀ h, u.session h = t.session h := by rw [hu]; exact fun _ => rfl
  have moved : Moved s u := by rw [hu]; exact .of_same rfl rfl rfl rfl
  have sound : PathsSound u := by
    rw [hu]; exact PathsBut.congr g.paths.whole.sound (fun _ => rfl) (fun _ => rfl) (fun _ => rfl) rfl
  have contexts : ContextsOpen u := by rw [hu]; exact g.contexts.of_same rfl rfl
  have service : u.service = s.service := by rw [hu]
  refine InOrder.of_view (s := u) ⟨⟨fun h => ?_, g.paths.whole.moved ⟨sound, moved⟩, fun r => moved.routeFits (g.paths.fits r),
    g.paths.frames.moved moved fun _ _ f _ h => ?_⟩, contexts⟩ (by rw [offSessions_pathView off, hu]; rfl)
  · rw [service, serving] at h; cases h
  · rw [session]; exact seated _ h

/-- The same between events, where the pool is kept and no session begins to close. -/
theorem Standing.on_sessions {s t : State} (g : Standing s) (off : t.offSessions = s.offSessions) (serving : s.service = .serving)
    (seated : ∀ h, (s.session h).isSome = true → (t.session h).isSome = true) (pool : t.pool = s.pool)
    (closing : ∀ h y, t.session h = some y → y.phase.isClosing = true →
      ∃ x, s.session h = some x ∧ x.phase.isClosing = true) : Standing t where
  toInOrder := g.toInOrder.on_sessions off serving seated
  waits h y hy c := by
    obtain ⟨x, hx, c⟩ := closing h y hy c
    have view := offSessions_pathView off
    have queues : t.queues = s.queues := show t.pathView.queues = s.queues by rw [view]; rfl
    have slots : t.slots = s.slots := show t.pathView.slots = s.slots by rw [view]; rfl
    have w := g.waits h x hx c
    simpa only [State.queuedFrames, State.linkQueues, State.openContexts, State.sealedContexts, queues, slots, pool] using w

/-! ### How an event ends -/

theorem pathView_fold {β : Type} {f : State → β → State} (h : ∀ s x, (f s x).pathView = s.pathView) (l : List β) (s : State) :
    (l.foldl f s).pathView = s.pathView :=
  foldl_rel (R := fun s t : State => t.pathView = s.pathView) (fun _ => rfl) (fun h k => k.trans h) h l s

@[simp] theorem pathView_modifyPort (p : Port) (f : PortState → PortState) (s : State) :
    (s.modifyPort p f).pathView = s.pathView := rfl
@[simp] theorem pathView_gather (o : Occurrence) (s : State) : (gather o s).pathView = s.pathView := rfl
@[simp] theorem pathView_count (c : Counter) (n : Nat) (s : State) : (s.count c n).pathView = s.pathView := rfl

@[simp] theorem pathView_gatherAll (s : State) : (gatherAll s).pathView = s.pathView :=
  pathView_fold (fun s o => pathView_gather o s) _ _

@[simp] theorem pathView_followCondition (b : State) (p : Port) (k : NoticeKind) (s : State) :
    (followCondition b p k s).pathView = s.pathView := by
  unfold followCondition
  repeat' split
  all_goals rfl

@[simp] theorem pathView_followRouteDark (b : State) (p : Port) (s : State) :
    (followRouteDark b p s).pathView = s.pathView := by
  unfold followRouteDark
  split
  · exact pathView_fold (fun s r => pathView_gather _ s) _ s
  · split <;> rfl

@[simp] theorem pathView_followConditions (b s : State) : (followConditions b s).pathView = s.pathView := by
  simp [followConditions]

@[simp] theorem pathView_noteEvent (b s : State) : (noteEvent b s).pathView = s.pathView := by simp [noteEvent]

theorem ArbiterRan.pathView {s t : State} (ran : ArbiterRan s t) : t.pathView = s.pathView :=
  congrArg (fun u : State => { u with ports := State.reset.ports }.pathView) ran.same

@[simp] theorem pathView_runArbiter (p : Port) (s : State) : (runArbiter p s).pathView = s.pathView :=
  (runArbiter_ran p s).pathView

@[simp] theorem pathView_runArbiters (s : State) : (runArbiters s).pathView = s.pathView := (runArbiters_ran s).pathView

@[simp] theorem pathView_respond (p : Port) (m : Message) (code : ResponseCode) (body : List Byte) (s : State) :
    (respond p m code body s).pathView = s.pathView := rfl

@[simp] theorem pathView_dropHead (p : Port) (s : State) : (dropHead p s).pathView = s.pathView := rfl

/-- Where no session is there, there is no closing to end. -/
theorem endAllClosing_of_empty {s : State} (h : s.sessions = .empty) : endAllClosing s = s := by
  rw [endAllClosing, h]; rfl

/-- An event's end leaves every closing session waiting (R105). -/
theorem settleEvent_standing {u : State} (g : InOrder u) (before : State) : Standing (settleEvent before u) := by
  obtain ⟨ran, waits⟩ := endAllClosing_ended g.contexts
  have contexts := (endClosings_ended u.sessions.keys u g.contexts).1
  refine Standing.of_view (s := endAllClosing u) ⟨g.ran ran contexts fun _ h slots => ?_, waits⟩ (pathView_noteEvent ..)
  rwa [endAllClosing_of_empty h]

/-- Every state that an outcome goes on to stands. -/
def Keeps (o : Host.Outcome State Fault Refusal) : Prop := ∀ t, o = .next t → Standing t

theorem Standing.keeps {s : State} (g : Standing s) : Keeps (.next s) := by rintro t ⟨⟩; exact g

theorem Keeps.ite {c : Prop} [Decidable c] {a b : Host.Outcome State Fault Refusal} (ha : c → Keeps a) (hb : ¬c → Keeps b) :
    Keeps (if c then a else b) := by
  split
  · exact ha ‹_›
  · exact hb ‹_›

theorem event_keeps {effect : State → State} {s : State} (g : InOrder (effect s)) : Keeps (event effect s) := by
  intro t h
  rw [← show runArbiters (settleEvent s (effect s)) = t from Host.Outcome.next.inj h]
  exact (settleEvent_standing g s).of_view (pathView_runArbiters _)

/-- An answer keeps the laws: a settled change stands, and a change that is carried out is in order. -/
def AnswerKeeps : Answer → Prop
  | .refuse _ _ | .report _ => True
  | .settle s _ => Standing s
  | .carry s _ => InOrder s

theorem conclude_standing {before : State} (g : Standing before) (p : Port) (m : Message) {a : Answer} (h : AnswerKeeps a) :
    Standing (conclude p m before a) := by
  cases a with
  | refuse code body => exact g.of_view (by simp [conclude])
  | report body => exact g.of_view (by simp [conclude])
  | settle s body => exact Standing.of_view h (by simp [conclude])
  | carry s body => exact (settleEvent_standing h before).of_view (by simp [conclude])

/-- Taking a request keeps the laws where every answer of the owning block does. -/
theorem takeRequest_keeps {α : Type} {q : Request} {p : Port} {read : List Byte → Option α} {answer : α → State → Answer}
    {s : State} (g : Standing s) (h : ∀ f u, Standing u → AnswerKeeps (answer f u)) : Keeps (takeRequest q p read answer s) := by
  unfold takeRequest
  split
  · exact g.keeps
  · next m _ =>
    have g' : Standing (dropHead p s) := g.of_view (pathView_dropHead p s)
    refine Standing.keeps (conclude_standing g' p m ?_)
    unfold answerRequest
    split
    · trivial
    · split
      · trivial
      · split
        · trivial
        · exact h _ _ g'

end Sys2Proof.Machine
end

section
/-! SUPPORT. The link manager's requests and events keep the laws of the paths (02). -/

namespace Sys2Proof.Machine

/-- A link's record is written, but for its state, its share and its marks. -/
theorem InOrder.setLink {s : State} (g : InOrder s) (k : LinkId) (l : Link) (state : l.state = (s.link k).state)
    (share : l.share = (s.link k).share) (marks : l.marks = (s.link k).marks) : InOrder (s.setLink k l) :=
  g.on_paths rfl (g.paths.setLink k l state share marks)

/-! ### Warm-up, carrier and linger (R26 to R32) -/

/-- A WARMING link becomes STANDBY, and its routes are told; or it fails (R26). -/
theorem endWarmUp_inOrder {s : State} (g : PathsInOrder s) {k : LinkId} (warming : (s.link k).state = .warming) :
    PathsInOrder (endWarmUp k s) := by
  unfold endWarmUp
  split
  · have standby : PathsInOrder (enterStandby k s) :=
      g.setIdleLink_same k _ (by rw [warming]; nofun) (by rw [warming]; nofun) nofun rfl
    have raised : PathsInOrder ((enterStandby k s).raise .lp .linkReady k.val) := standby.of_view rfl
    have ready : ((enterStandby k s).raise .lp .linkReady k.val).ready k = true := by
      show ((enterStandby k s).link k).state.ready = true
      rw [enterStandby, State.link_modifyLink, if_pos rfl]; rfl
    exact raised.told (offPaths_toldReady k _) (toldReady_sound raised.whole.sound ready raised.fits) inServing_configuring
  · exact fail_inOrder g k

theorem execWarmUpDeadline_keeps {s : State} (g : Standing s) (k : LinkId) : Keeps (execWarmUpDeadline k s) := by
  refine .ite (fun due => event_keeps ?_) fun _ => g.keeps
  have warming : (s.link k).state = .warming := by
    simp only [State.warmUpDue, Bool.and_eq_true, decide_eq_true_eq] at due
    exact due.1
  have g1 : PathsInOrder (s.modifyLink k fun l => { l with warmUpDeadline := none }) := g.paths.setLink k _ rfl rfl rfl
  refine g.on_paths (offPaths_endWarmUp k _) (endWarmUp_inOrder g1 ?_)
  rw [State.link_modifyLink, if_pos rfl]
  exact warming

theorem execLingerDeadline_keeps {s : State} (g : Standing s) (k : LinkId) : Keeps (execLingerDeadline k s) := by
  refine .ite (fun due => event_keeps (g.on_paths (offPaths_switchOff k s) ?_)) fun _ => g.keeps
  have standby : (s.link k).state = .standby := by
    simp only [State.lingerDue, Bool.and_eq_true, decide_eq_true_eq] at due
    exact due.1
  exact switchOff_inOrder g.paths (by rw [standby]; nofun) (by rw [standby]; nofun)

theorem execCarrierLoss_keeps {s : State} (g : Standing s) (k : LinkId) : Keeps (execCarrierLoss k s) := by
  refine .ite (fun _ => event_keeps ?_) fun _ => g.keeps
  have g1 : InOrder (s.modifyLink k fun l => { l with carrier := false }) := g.setLink k _ rfl rfl rfl
  unfold carrierLost
  dsimp only
  generalize s.modifyLink k _ = t at g1 ⊢
  split
  case h_1 | h_2 | h_3 => exact g1.on_paths (offPaths_fail k t) (fail_inOrder g1.paths k)
  all_goals exact g1

theorem execCarrierRegain_keeps {s : State} (g : Standing s) (k : LinkId) : Keeps (execCarrierRegain k s) := by
  refine .ite (fun _ => g.keeps) fun _ => event_keeps ?_
  have g1 : InOrder (s.modifyLink k fun l => { l with carrier := true }) := g.setLink k _ rfl rfl rfl
  unfold carrierRegained
  dsimp only
  generalize s.modifyLink k _ = t at g1 ⊢
  split
  case h_1 failed => exact g1.on_paths (offPaths_enterWarming k t) (enterWarming_inOrder g1.paths (.inr failed))
  all_goals exact g1

/-! ### LINK_SETUP and LINK_TUNE (R19 to R21) -/

theorem answerLinkSetup_keeps {s : State} (g : Standing s) (f : LinkSetupFields) : AnswerKeeps (answerLinkSetup f s) := by
  unfold answerLinkSetup
  split
  · trivial
  · next k _ =>
    dsimp only
    split
    · trivial
    · next idle =>
      split
      · trivial
      · next kind _ =>
        split
        · trivial
        · split
          · trivial
          · next fits =>
            refine ⟨g.on_paths rfl (g.paths.setIdleLink k _ (fun h => idle (by rw [h]; rfl)) (fun h => idle (by rw [h]; rfl)) ?_
              fun c => ?_), g.waits⟩
            · show (if (s.link k).state = .unconfigured then LinkState.off else (s.link k).state) ≠ .active
              split
              · nofun
              · exact fun h => idle (by rw [h]; rfl)
            · have := List.find?_eq_none.1 fits c (mem_allClasses c)
              simp only [Marks.fits, Bool.not_eq_true, Bool.not_eq_false', decide_eq_true_eq] at this
              exact this.2.1

theorem answerLinkTune_keeps {s : State} (g : Standing s) (f : LinkTuneFields) : AnswerKeeps (answerLinkTune f s) := by
  unfold answerLinkTune
  split
  · trivial
  · next k _ =>
    have tuned : InOrder (s.modifyLink k (·.tuned f)) := g.setLink k _ rfl rfl rfl
    have aged : InOrder { s.modifyLink k (·.tuned f) with
        ageLimits := ⟨tunedAge s.ageLimits.c0 f.ages.c0, tunedAge s.ageLimits.c1 f.ages.c1,
          tunedAge s.ageLimits.c2 f.ages.c2, tunedAge s.ageLimits.c3 f.ages.c3⟩ } := tuned.of_view rfl
    exact aged.on_paths (offPaths_rejudge k _) (rejudge_inOrder aged.paths k)

/-! ### LINK_POWER, LINK_STATUS and LINK_REPORT (R22 to R35) -/

theorem answerPowerOn_keeps {s : State} (g : Standing s) (f : Nat × Nat) : AnswerKeeps (answerPowerOn f s) := by
  unfold answerPowerOn
  split
  · trivial
  · next k _ =>
    split
    · trivial
    · split
      case h_2 off => exact g.on_paths (offPaths_enterWarming k s) (enterWarming_inOrder g.paths (.inl off))
      case h_3 failed => exact g.on_paths (offPaths_enterWarming k s) (enterWarming_inOrder g.paths (.inr failed))
      all_goals trivial

theorem answerPowerOff_keeps {s : State} (g : Standing s) (f : Nat × Nat) : AnswerKeeps (answerPowerOff f s) := by
  unfold answerPowerOff
  split
  · trivial
  · next k _ =>
    have switched (active : (s.link k).state ≠ .active) (retiring : (s.link k).state ≠ .retiring) : InOrder (switchOff k s) :=
      g.on_paths (offPaths_switchOff k s) (switchOff_inOrder g.paths active retiring)
    split
    case h_4 h => exact switched (by rw [h]; nofun) (by rw [h]; nofun)
    case h_5 h => exact switched (by rw [h]; nofun) (by rw [h]; nofun)
    case h_6 h => exact switched (by rw [h]; nofun) (by rw [h]; nofun)
    case h_7 active => exact g.on_paths (offPaths_retire k s) (retire_inOrder g.paths active)
    all_goals trivial

theorem answerStatusUp_keeps {s : State} (g : Standing s) (f : Nat × Nat) : AnswerKeeps (answerStatusUp f s) := by
  unfold answerStatusUp
  split
  · trivial
  · next k _ =>
    split
    · trivial
    · split
      case h_2 failed => exact g.on_paths (offPaths_enterWarming k s) (enterWarming_inOrder g.paths (.inr failed))
      all_goals trivial

theorem answerStatusDown_keeps {s : State} (g : Standing s) (f : Nat × Nat) : AnswerKeeps (answerStatusDown f s) := by
  unfold answerStatusDown
  split
  · trivial
  · next k _ =>
    have failed : InOrder (fail k s) := g.on_paths (offPaths_fail k s) (fail_inOrder g.paths k)
    split
    case h_1 | h_2 | h_3 => trivial
    all_goals exact failed

theorem answerLinkReport_keeps {s : State} (g : Standing s) (f : Nat × Nat) : AnswerKeeps (answerLinkReport f s) := by
  unfold answerLinkReport
  split
  · trivial
  · next k _ =>
    split
    · have g1 : InOrder (s.modifyLink k fun l => { l with quality := smoothed l.quality f.2 }) := g.setLink k _ rfl rfl rfl
      exact g1.on_paths (offPaths_rejudge k _) (rejudge_inOrder g1.paths k)
    · exact g.of_view rfl

end Sys2Proof.Machine
end

section
/-! SUPPORT. The route unit's requests and deadlines keep the laws of the paths (03). -/

namespace Sys2Proof.Machine

/-! ### A policy (R39, R40) -/

/-- A state with the same links, queues, bound and draining links has whole paths too. -/
theorem PathsWhole.congr {s t : State} (w : PathsWhole s) (links : t.links = s.links) (queues : t.queues = s.queues)
    (bound : ∀ r, (t.route r).bound = (s.route r).bound) (draining : ∀ r, (t.route r).draining = (s.route r).draining) :
    PathsWhole t := by
  have link : ∀ k, t.link k = s.link k := fun k => by rw [State.link, State.link, links]
  have carries : ∀ r k, t.carries r k ↔ s.carries r k := fun r k => by simp only [State.carries, State.linkQueues, queues]
  refine ⟨PathsBut.congr w.sound (fun k => by rw [link]) bound draining queues, fun r k h => ?_, fun r k h => ?_⟩
  · rw [link]; exact w.bound r k (by rwa [← bound])
  · rw [carries]; exact w.drains r k (by rwa [State.drainsOn, ← draining])

/-- In SERVING the route unit has answered a change, and every route is left on links that are allowed. -/
theorem PathsWhole.answered {s t : State} (w : PathsWhole s) (frames : FramesInOrder s) (serving : s.service = .serving)
    (off : t.offPaths = s.offPaths) (m : SoundMove s t) (fits : ∀ r, RouteFits t r) : PathsInOrder t where
  idle h := by rw [offPaths_service off, serving] at h; cases h
  whole := w.moved m
  fits := fits
  frames := frames.moved m.moved fun _ _ _ _ h => by rwa [offPaths_session off]

theorem answerRoutePolicy_inOrder {s : State} (g : PathsInOrder s) (r : RouteId) (f : PolicyFields) :
    PathsInOrder (inServing (answerPolicy r) (s.modifyRoute r (·.withPolicy f))) := by
  obtain ⟨t, ht⟩ : ∃ t, t = s.modifyRoute r (·.withPolicy f) := ⟨_, rfl⟩
  have route : ∀ q, t.route q = if q = r then (s.route r).withPolicy f else s.route q := fun q => by
    rw [ht]; exact s.route_modifyRoute q r _
  have kept : ∀ q, (t.route q).bound = (s.route q).bound ∧ (t.route q).swap = (s.route q).swap
      ∧ (t.route q).draining = (s.route q).draining ∧ (t.route q).settle = (s.route q).settle := fun q => by
    rw [route]
    split
    · next h => subst q; exact ⟨rfl, rfl, rfl, rfl⟩
    · exact ⟨rfl, rfl, rfl, rfl⟩
  have whole : PathsWhole t :=
    g.whole.congr (by rw [ht]; rfl) (by rw [ht]; rfl) (fun q => (kept q).1) fun q => by
      obtain ⟨-, -, draining, -⟩ := kept q
      exact draining
  have frames : FramesInOrder t := by rw [ht]; exact ⟨g.frames.frame, g.frames.share, g.frames.latch⟩
  have within : ∀ q (P : LinkId → Prop), RouteWithin P s q → RouteWithin P t q := fun q P h => by
    rw [routeWithin_iff, (kept q).1, (kept q).2.1]; exact routeWithin_iff.1 h
  have zone : t.zone = s.zone := by rw [ht]; rfl
  have service : t.service = s.service := by rw [ht]; rfl
  have idle : ConfiguringIdle t := fun h => by
    obtain ⟨h1, h2, h3, h4, h5, h6⟩ := g.idle (service ▸ h)
    refine ⟨by rw [ht]; exact h1, by rw [ht]; exact h2, by rw [ht]; exact h3, by rw [ht]; exact h4, by rw [ht]; exact h5, fun q => ?_⟩
    obtain ⟨kb, ks, kd, kt⟩ := kept q
    rw [kb, ks, kd, kt]
    exact h6 q
  rw [← ht]
  clear ht
  cases h : t.service with
  | configuring =>
    rw [inServing_configuring h]
    refine ⟨idle, whole, fun q => routeWithin_iff.2 ?_, frames⟩
    obtain ⟨bound, swap, -⟩ := idle.routes h q
    rw [bound, swap]
    exact ⟨nofun, nofun⟩
  | serving =>
    rw [inServing_serving h]
    have usable : ∀ k, t.usable k = s.usable k := fun k => by simp only [State.usable, State.segment, State.segmentIndex, zone]
    obtain ⟨m, fits⟩ := answerPolicy_fits whole.sound (r := r)
      (within r _ fun k hk => by rw [usable]; exact (g.fits r k hk).2)
    refine whole.answered frames h (offPaths_answerPolicy r t) m fun q => ?_
    by_cases here : q = r
    · subst q; exact fits
    · refine m.moved.routeFits fun k hk => ?_
      rw [State.allows_congr zone (by rw [route, if_neg here])]
      exact within q (s.allows q) (g.fits q) k hk

theorem answerRoutePolicy_keeps {s : State} (g : Standing s) (f : PolicyFields) : AnswerKeeps (answerRoutePolicy f s) := by
  unfold answerRoutePolicy
  split
  · trivial
  · next r _ =>
    split
    · trivial
    · exact g.on_paths (offPaths_inServing (offPaths_answerPolicy r) _) (answerRoutePolicy_inOrder g.paths r f)

/-! ### Swaps asked for (R55 to R57) -/

/-- What passes the checks of R55 is asked for in SERVING, and a target that is named is allowed. -/
theorem checkedSwap_keeps {answer : RouteId → SwapTarget → State → Answer} {s : State} (f : SwapFields)
    (h : ∀ r t, s.service = .serving → (∀ k, t = .link k → s.allows r k) → AnswerKeeps (answer r t s)) :
    AnswerKeeps (checkedSwap f answer s) := by
  unfold checkedSwap
  split
  · trivial
  · next serving =>
    have serving := not_not.1 serving
    split
    · trivial
    · next r _ =>
      split
      · trivial
      · split
        · trivial
        · split
          · exact h r _ serving nofun
          · split
            · trivial
            · split
              · next candidate => exact h r _ serving fun k e => by cases e; exact State.candidate_allows candidate
              · trivial

theorem answerSwap_keeps {s : State} (g : Standing s) (r : RouteId) (t : SwapTarget) (serving : s.service = .serving)
    (allowed : ∀ k, t = .link k → s.allows r k) : AnswerKeeps (answerSwap r t s) := by
  have swaps {k : LinkId} (h : s.allows r k) : InOrder (startSwap r .routine k s) :=
    g.moved (startSwap_sound g.paths.whole.sound r .routine h) (offPaths_startSwap ..) serving
  unfold answerSwap
  split
  · exact swaps (allowed _ rfl)
  · split
    · trivial
    · next k found =>
      split
      · trivial
      · exact swaps (State.routineSelection_allows found)
  · split
    · trivial
    · exact g.moved (selectForced_sound startSwap_startsSoundly g.paths.whole.sound r none)
        (offPaths_selectForced startSwap_onPaths ..) serving

/-- A FORCED swap to a named target that is allowed (R57). -/
theorem forceTo_sound {s : State} (p : PathsSound s) (r : RouteId) {k : LinkId} (allowed : s.allows r k) :
    SoundMove s (forceTo r k s) := by
  have left : SoundMove s (leaveBound r (s.route r).bound false (s.modifyRoute r Route.unbound)) := by
    cases h : (s.route r).bound with
    | none => exact modifyRoute_sound p r Route.unbound ⟨rfl, h.symm, rfl⟩ nofun
    | some b => exact (unbind_sound (failed := false) p h nofun (s.route r).unbound rfl rfl rfl nofun).1
  exact left.trans (startSwap_sound left.sound r .forced ((left.moved.allows r k).2 allowed))

theorem answerSwapForce_keeps {s : State} (g : Standing s) (r : RouteId) (t : SwapTarget) (serving : s.service = .serving)
    (allowed : ∀ k, t = .link k → s.allows r k) : AnswerKeeps (answerSwapForce r t s) := by
  have cleared := clearReselect_sound g.paths.whole.sound r
  have bound : ((clearReselect r s).route r).bound = (s.route r).bound := by
    rw [clearReselect, State.route_modifyRoute, if_pos rfl]
  unfold answerSwapForce
  split
  · next k =>
    exact g.moved (cleared.trans (forceTo_sound cleared.sound r ((cleared.moved.allows r k).2 (allowed k rfl))))
      (by simp [forceTo, clearReselect]) serving
  · next b hb =>
    have struck := (strike_sound startSwap_startsSoundly cleared.sound (failed := false) (bound.trans hb) nofun).1
    exact g.moved (cleared.trans struck) (by simp [clearReselect]) serving
  · split
    · trivial
    · exact g.moved (cleared.trans (reselectDark_sound cleared.sound r)) (by simp [clearReselect]) serving

/-! ### Deadlines (R48, R49, R61) -/

/-- A route with something in hand is one of a SERVING service. -/
theorem ConfiguringIdle.serving {s : State} (idle : ConfiguringIdle s) {r : RouteId}
    (busy : ¬((s.route r).swap = .idle ∧ (s.route r).draining = none ∧ (s.route r).settle = none)) : s.service = .serving := by
  cases h : s.service with
  | serving => rfl
  | configuring =>
    obtain ⟨-, -, -, -, -, routes⟩ := idle h
    exact absurd (routes r).2 busy

/-- A drain ends by its deadline: the route's frames left there are discarded (R49). -/
theorem endDrain_sound {s : State} (p : PathsSound s) (r : RouteId) : SoundMove s (endDrain r s) := by
  unfold endDrain
  split
  · exact .refl p
  · next d e draining =>
    have m1 : Moved s (s.modifyRoute r fun x => { x with draining := none }) :=
      .setRoute s r _ rfl (fun _ => .inl) (fun _ => .inl) nofun
    have p1 : PathsBut r (· = d) False noLink (s.modifyRoute r fun x => { x with draining := none }) := by
      refine (p.but r).setRoute _ (fun k h => p.held r k h) nofun (fun k h => ?_) fun k h => h
      rcases (p.but r).carried r k h with b | h | ⟨-, ⟨⟩⟩
      · exact .inl b
      · exact .inr (.inr (by simpa [State.drainsOn, draining] using h.symm))
    have undrained : ¬(s.modifyRoute r fun x => { x with draining := none }).drainsOn r d := by
      rw [State.drainsOn, State.route_modifyRoute, if_pos rfl]; nofun
    have m2 := supersede_superseded r d (s.modifyRoute r fun x => { x with draining := none })
    refine ⟨?_, m1.trans m2.moved⟩
    exact ((m2.paths _ _ p1).mono (fun k h => h.2 h.1) undrained fun _ => id).sound

theorem execDrainDeadline_keeps {s : State} (g : Standing s) (r : RouteId) : Keeps (execDrainDeadline r s) := by
  refine .ite (fun due => event_keeps ?_) fun _ => g.keeps
  refine g.moved (endDrain_sound g.paths.whole.sound r) ?_ (g.paths.idle.serving (r := r) fun still => ?_)
  · unfold endDrain
    split <;> simp
  · rw [State.drainDue, still.2.1] at due
    cases due

theorem passProbation_sound {s : State} (p : PathsSound s) (r : RouteId) : SoundMove s (passProbation r s) := by
  have idle := modifyRoute_sound p r (fun x => { x with swap := .idle, lastGood := x.bound }) ⟨rfl, rfl, rfl⟩ nofun
  have raised := idle.trans (raise_sound idle.sound .lp .swapDone r.val)
  exact raised.trans (backToIdle_sound startSwap_startsSoundly raised.sound r none)

theorem execProbationDeadline_keeps {s : State} (g : Standing s) (r : RouteId) : Keeps (execProbationDeadline r s) := by
  refine .ite (fun due => event_keeps ?_) fun _ => g.keeps
  refine g.moved (passProbation_sound g.paths.whole.sound r) ?_ (g.paths.idle.serving (r := r) fun still => ?_)
  · unfold passProbation
    rw [offPaths_backToIdle startSwap_onPaths]
    rfl
  · rw [State.probationDue, still.1] at due
    cases due

theorem settleReached_sound {s : State} (p : PathsSound s) (r : RouteId) : SoundMove s (settleReached r s) := by
  unfold settleReached
  dsimp only
  split
  · split
    · next preferred => exact startSwap_sound p r .routine (State.preferred_allows preferred)
    · exact settleEvaluate_sound p r
  · exact settleEvaluate_sound p r

theorem execSettleDeadline_keeps {s : State} (g : Standing s) (r : RouteId) : Keeps (execSettleDeadline r s) := by
  refine .ite (fun due => event_keeps ?_) fun _ => g.keeps
  refine g.moved (settleReached_sound g.paths.whole.sound r) ?_ (g.paths.idle.serving (r := r) fun still => ?_)
  · unfold settleReached
    dsimp only
    repeat' split
    all_goals simp
  · rw [State.settleDue, still.2.2] at due
    cases due

end Sys2Proof.Machine
end

section
/-! SUPPORT. The session unit's requests and deadline keep the laws (04). -/

namespace Sys2Proof.Machine

/-! ### Moves of sessions, bearers and pool frames -/

/-- A move on sessions, the bearer map and the pool alone, in which no session is freed. -/
structure SessionMove (s t : State) : Prop where
  off : t.offSessions = s.offSessions
  seated : ∀ h, (s.session h).isSome = true → (t.session h).isSome = true

namespace SessionMove

theorem refl (s : State) : SessionMove s s := ⟨rfl, fun _ => id⟩

theorem trans {s t u : State} (m : SessionMove s t) (n : SessionMove t u) : SessionMove s u :=
  ⟨n.off.trans m.off, fun h hs => n.seated h (m.seated h hs)⟩

theorem fold {β : Type} {f : State → β → State} (h : ∀ s x, SessionMove s (f s x)) (l : List β) (s : State) :
    SessionMove s (l.foldl f s) := foldl_rel refl trans h l s

theorem setSession (s : State) (h : Nat) (x : Session) : SessionMove s (s.setSession h (some x)) := by
  refine ⟨rfl, fun j hj => ?_⟩
  by_cases here : j = h
  · rw [here, s.session_setSession_self]; rfl
  · rwa [s.session_setSession_ne here]

theorem setTag (s : State) (t : Nat) (x : Option (Nat × TrafficClass)) : SessionMove s (s.setTag t x) := ⟨rfl, fun _ => id⟩

theorem raise (s : State) (p : Port) (k : NoticeKind) (n : Nat) : SessionMove s (s.raise p k n) := ⟨rfl, fun _ => id⟩

theorem mapTags (h : Nat) (bearers : List Bearer) (s : State) : SessionMove s (mapTags h bearers s) :=
  fold (f := fun (s : State) (b : Bearer) => s.setTag b.tag (some (h, b.cls))) (fun s b => setTag s b.tag _) bearers s

theorem freeTags (bearers : List Bearer) (s : State) : SessionMove s (freeTags bearers s) :=
  fold (f := fun (s : State) (b : Bearer) => s.setTag b.tag none) (fun s b => setTag s b.tag _) bearers s

theorem discardPool (h : Nat) (c : Counter) (s : State) : SessionMove s (discardPool h c s) := by
  unfold Machine.discardPool
  dsimp only
  split
  · exact refl s
  · exact ⟨rfl, fun _ => id⟩

theorem enterClosing (h : Nat) (why : SessionClose) (s : State) : SessionMove s (enterClosing h why s) := by
  unfold Machine.enterClosing
  split
  · exact refl s
  · exact ((freeTags _ s).trans (setSession ..)).trans (discardPool ..)

theorem park (h : Nat) (s : State) : SessionMove s (park h s) := by
  unfold Machine.park State.modifySession
  dsimp only
  split
  · exact (setSession ..).trans (discardPool ..)
  · exact discardPool ..

theorem inOrder {s t : State} (m : SessionMove s t) (g : InOrder s) (serving : s.service = .serving) : InOrder t :=
  g.on_sessions m.off serving m.seated

end SessionMove

/-- Tags are mapped and unmapped in the bearer map alone. -/
theorem mapTags_sessions (h : Nat) (bearers : List Bearer) (s : State) :
    (mapTags h bearers s).sessions = s.sessions ∧ (mapTags h bearers s).pool = s.pool :=
  foldl_rel (R := fun s t : State => t.sessions = s.sessions ∧ t.pool = s.pool)
    (f := fun (s : State) (b : Bearer) => s.setTag b.tag (some (h, b.cls))) (fun _ => ⟨rfl, rfl⟩)
    (fun h k => ⟨k.1.trans h.1, k.2.trans h.2⟩) (fun _ _ => ⟨rfl, rfl⟩) bearers s

theorem State.named_some {s : State} {h : Nat} {x : Session} (named : s.named h = some x) : s.session h = some x := by
  unfold State.named at named
  split at named
  · exact named
  · cases named

theorem Standing.serving {s : State} (g : Standing s) {h : Nat} {x : Session} (named : s.named h = some x) :
    s.service = .serving := g.paths.serving_of_session (State.named_some named)

/-- A session's record is written while the service is SERVING, its phase being as it was or not CLOSING. -/
theorem Standing.setSession {s t : State} (g : Standing s) (serving : s.service = .serving) {h : Nat} {x : Session}
    (sessions : t.sessions = (s.setSession h (some x)).sessions) (m : SessionMove s t) (pool : t.pool = s.pool)
    (phase : x.phase.isClosing = true → ∃ y, s.session h = some y ∧ y.phase.isClosing = true) : Standing t := by
  refine g.on_sessions m.off serving m.seated pool fun j y hy closing => ?_
  rw [State.session, sessions] at hy
  by_cases here : j = h
  · subst j
    obtain rfl : x = y := Option.some.inj ((s.session_setSession_self h (some x)).symm.trans hy)
    exact phase closing
  · exact ⟨y, (s.session_setSession_ne here (some x)).symm.trans hy, closing⟩

/-! ### Requests (R70 to R75, R81, R87) -/

theorem answerAttach_keeps {s : State} (g : Standing s) (f : AttachFields) : AnswerKeeps (answerAttach f s) := by
  unfold answerAttach
  split
  · trivial
  · next serving =>
    split
    · trivial
    · split
      · next group _ _ =>
        split
        · trivial
        · split
          · trivial
          · split
            · trivial
            · split
              · trivial
              · next h _ =>
                obtain ⟨sessions, pool⟩ := mapTags_sessions h (s.attached f group).bearers (s.setSession h (some (s.attached f group)))
                exact g.setSession (not_not.1 serving) sessions ((SessionMove.setSession ..).trans (.mapTags ..)) pool nofun
      · trivial

theorem answerDetach_keeps {s : State} (g : Standing s) (h : Nat) : AnswerKeeps (answerDetach h s) := by
  unfold answerDetach
  split
  · trivial
  · next x named =>
    split
    · trivial
    · exact (SessionMove.enterClosing h .detach s).inOrder g.toInOrder (g.serving named)

theorem answerBearerAdd_keeps {s : State} (g : Standing s) (f : BearerFields) : AnswerKeeps (answerBearerAdd f s) := by
  unfold answerBearerAdd
  split
  · trivial
  · next x named =>
    split
    · trivial
    · next open' =>
      split
      · split
        · trivial
        · split
          · trivial
          · exact g.setSession (g.serving named) rfl ((SessionMove.setSession ..).trans (.setTag ..)) rfl fun c => absurd c open'
      · trivial

theorem answerBearerDrop_keeps {s : State} (g : Standing s) (f : Nat × Nat) : AnswerKeeps (answerBearerDrop f s) := by
  unfold answerBearerDrop
  split
  · trivial
  · next x named =>
    split
    · trivial
    · next open' =>
      split
      · trivial
      · split
        · trivial
        · exact g.setSession (g.serving named) rfl ((SessionMove.setSession ..).trans (.setTag ..)) rfl fun c => absurd c open'

/-- An effect on causes and accounts alone. -/
theorem InOrder.charged {s t : State} (g : InOrder s) (m : MoneyFrame s t) (off : t.offCharge = s.offCharge) : InOrder t :=
  g.money m (g.contexts.offCharge off) fun _ _ h => by rwa [(offCharge_slots off).1]

theorem answerResume_keeps {s : State} (g : Standing s) (h : Nat) : AnswerKeeps (answerResume h s) := by
  unfold answerResume
  split
  · trivial
  · next x named =>
    have serving := g.serving named
    split
    · trivial
    · trivial
    · split
      · trivial
      · have active : InOrder (s.setSession h (some { x with phase := .active })) :=
          (SessionMove.setSession ..).inOrder g.toInOrder serving
        exact active.charged (.evaluateRoaming h _) (offCharge_evaluateRoaming h _)

theorem setCause_inOrder {s : State} (g : InOrder s) (h : Nat) (c : Cause) (v : Bool) : InOrder (setCause h c v s) :=
  g.charged (.setCause h c v s) (offCharge_setCause h c v s)

theorem answerBar_keeps {s : State} (g : Standing s) (f : Nat × Option (BitVec 64)) : AnswerKeeps (answerBar f s) := by
  unfold answerBar
  split
  · exact setCause_inOrder g.toInOrder f.1 .barred true
  · trivial

theorem answerUnbar_keeps {s : State} (g : Standing s) (f : Nat × Option (BitVec 64)) : AnswerKeeps (answerUnbar f s) := by
  unfold answerUnbar
  split
  · exact setCause_inOrder g.toInOrder f.1 .barred false
  · trivial

/-! ### The park deadline (R88) -/

theorem execParkDeadline_keeps {s : State} (g : Standing s) (h : Fin 512) : Keeps (execParkDeadline h s) := by
  refine .ite (fun due => event_keeps ?_) fun _ => g.keeps
  refine ((SessionMove.enterClosing h.val .expiry s).trans (.raise ..)).inOrder g.toInOrder ?_
  unfold State.parkDue at due
  split at due
  · next parked => exact g.paths.serving_of_session parked
  · cases due

end Sys2Proof.Machine
end

section
/-! SUPPORT. The requests of the account unit and the meter, and the meter's deadline, keep the laws (06, 07). -/

namespace Sys2Proof.Machine

/-! ### Accounts (R133 to R139) -/

@[simp] theorem pathView_setAccount (a : Nat) (x : Account) (s : State) : (s.setAccount a x).pathView = s.pathView := rfl
@[simp] theorem pathView_modifyAccount (a : Nat) (f : Account → Account) (s : State) :
    (s.modifyAccount a f).pathView = s.pathView := rfl

theorem judgeFlags_inOrder {s : State} (g : InOrder s) (notices : Bool) (a : Nat) : InOrder (judgeFlags notices a s) :=
  g.charged (.judgeFlags notices a s) (offCharge_judgeFlags notices a s)

theorem settleAccount_inOrder {s : State} (g : InOrder s) (notices : Bool) (a : Nat) (x : Account) :
    InOrder (settleAccount notices a x s) :=
  (judgeFlags_inOrder (g.of_view (pathView_setAccount a x s)) notices a).of_view (pathView_modifyAccount a _ _)

theorem answerAccountOpen_keeps {s : State} (g : Standing s) (f : AccountOpenFields) : AnswerKeeps (answerAccountOpen f s) := by
  unfold answerAccountOpen
  split
  · trivial
  · split
    · trivial
    · split
      · trivial
      · split
        · exact judgeFlags_inOrder (g.toInOrder.of_view (pathView_setAccount ..)) false f.account
        · trivial

theorem answerAccountClose_keeps {s : State} (g : Standing s) (a : Nat) : AnswerKeeps (answerAccountClose a s) := by
  unfold answerAccountClose
  split
  · trivial
  · dsimp only
    split
    · split
      · trivial
      · exact g.of_view (pathView_setAccount ..)
    · trivial

theorem answerAccountCredit_keeps {s : State} (g : Standing s) (f : CreditFields) : AnswerKeeps (answerAccountCredit f s) := by
  unfold answerAccountCredit
  dsimp only
  split
  · trivial
  · split
    · trivial
    · split
      · trivial
      · split
        · trivial
        · exact settleAccount_inOrder g.toInOrder ..

theorem answerAccountSet_keeps {s : State} (g : Standing s) (f : AccountSetFields) : AnswerKeeps (answerAccountSet f s) := by
  unfold answerAccountSet
  dsimp only
  split
  · trivial
  · split
    · trivial
    · split
      · trivial
      · split
        · trivial
        · exact settleAccount_inOrder g.toInOrder ..

/-! ### Contexts (R122, R124, R142 to R144) -/

theorem slot_of_empty {s : State} (h : s.slots = .empty) (i : Nat) : s.slot i = none := by rw [State.slot, h]; rfl

theorem openContext_of_empty {s : State} (h : s.slots = .empty) (i : Nat) : s.openContext i = none := by
  rw [State.openContext, slot_of_empty h]

theorem closeContext_inOrder {s : State} (g : InOrder s) (why : CloseReason) (i : Nat) : InOrder (closeContext why i s) :=
  g.money (.closeContext why i s) (closeContext_contextsOpen g.contexts why i) fun _ _ h => by
    rwa [(closeContext_closed why i s).unopened (openContext_of_empty h i)]

theorem closeAll_inOrder {s : State} (g : InOrder s) (which : List (Nat × CloseReason)) : InOrder (closeAll which s) := by
  induction which generalizing s with
  | nil => exact g
  | cons e l ih => exact ih (closeContext_inOrder g e.2 e.1)

theorem execIntervalDeadline_keeps {s : State} (g : Standing s) (i : Fin 64) : Keeps (execIntervalDeadline i s) :=
  .ite (fun _ => event_keeps (closeContext_inOrder g.toInOrder .interval i.val)) fun _ => g.keeps

theorem admitOne_inOrder {s : State} (g : InOrder s) : InOrder (admitOne s) := by
  refine g.money (.admitOne s) (admitOne_contextsOpen g.contexts) fun _ _ h => ?_
  unfold admitOne
  split
  · split
    · next i rest _ =>
      rw [slot_of_empty h]
      exact h
    · split <;> exact h
  · exact h

theorem admitRecords_inOrder : ∀ (n : Nat) {s : State}, InOrder s → InOrder (admitRecords n s)
  | 0, _, g => g
  | n + 1, _, g => admitRecords_inOrder n (admitOne_inOrder g)

theorem pathView_deliverAll (taken : List ChargeRecord) (s : State) : (deliverAll taken s).pathView = s.pathView :=
  pathView_fold (f := fun (s : State) (r : ChargeRecord) => s.modifyAccount r.account (·.deliver r.charge))
    (fun s r => pathView_modifyAccount r.account _ s) taken s

theorem takeRecords_inOrder {s : State} (g : InOrder s) (n : Nat) : InOrder (takeRecords n s) :=
  admitRecords_inOrder _ (g.of_view (pathView_deliverAll (s.crq.take n) _))

theorem answerRecordTake_keeps {s : State} (g : Standing s) (n : Nat) : AnswerKeeps (answerRecordTake n s) := by
  unfold answerRecordTake
  split
  · trivial
  · split
    · trivial
    · exact takeRecords_inOrder g.toInOrder n

theorem answerMeterSetup_keeps {s : State} (g : Standing s) (f : MeterSetupFields) : AnswerKeeps (answerMeterSetup f s) :=
  g.of_view rfl

end Sys2Proof.Machine
end

section
/-! SUPPORT. Crossings, the zone tracker's requests and deadline, and the service start keep the laws (01, 08 section 9.4). -/

namespace Sys2Proof.Machine

/-! ### The service start (R153 to R155) -/

/-- The service enters SERVING with its paths as they were. -/
theorem InOrder.enter_serving {s : State} (g : InOrder s) : InOrder { s with service := .serving } :=
  ⟨⟨nofun, g.paths.whole.congr rfl rfl (fun _ => rfl) (fun _ => rfl), g.paths.fits,
    ⟨g.paths.frames.frame, g.paths.frames.share, g.paths.frames.latch⟩⟩, g.contexts.of_same rfl rfl⟩

theorem startCheck_inOrder {s : State} (g : InOrder s) : InOrder (startCheck s) := by
  unfold startCheck
  split
  · exact g
  · split
    · have g1 := g.enter_serving
      exact g1.moved (reselectAllDark_sound g1.paths.whole.sound) (offPaths_reselectAllDark _) rfl
    · exact g

theorem start_keeps {s : State} (g : Standing s) (p : Port) : AnswerKeeps (.carry (start p s) startBody) :=
  startCheck_inOrder (g.toInOrder.of_view (pathView_modifyPort p _ s))

/-! ### Crossings (R15) -/

/-- What is in order while a new segment has yet to be answered: each route is on links that its mask permits, be they usable or
not. -/
structure Crossable (s : State) : Prop where
  idle : ConfiguringIdle s
  whole : PathsWhole s
  permitted : ∀ r, RouteWithin (fun k => s.permits r k = true) s r
  frames : FramesInOrder s
  contexts : ContextsOpen s

/-- The zone tracker moves. -/
theorem InOrder.crossable {s : State} (g : InOrder s) (z : Zone) : Crossable { s with zone := z } where
  idle := g.paths.idle
  whole := g.paths.whole.congr rfl rfl (fun _ => rfl) fun _ => rfl
  permitted r k h := (g.paths.fits r k h).1
  frames := ⟨g.paths.frames.frame, g.paths.frames.share, g.paths.frames.latch⟩
  contexts := g.contexts.of_same rfl rfl

/-- The zone tracker moves within a segment. -/
theorem InOrder.setZone {s : State} (g : InOrder s) (z : Zone) (same : ({ s with zone := z } : State).segment = s.segment) :
    InOrder { s with zone := z } := by
  have c := g.crossable z
  refine ⟨⟨c.idle, c.whole, fun r k h => ⟨c.permitted r k h, ?_⟩, c.frames⟩, c.contexts⟩
  rw [State.usable, same]
  exact (g.paths.fits r k h).2

/-- In CONFIGURING the route unit answers no crossing, having nothing bound; in SERVING every route answers (R58). -/
theorem Crossable.answered {s : State} (c : Crossable s) :
    InOrder (inServing (fun s => allRoutes.foldl (fun s r => answerCrossing r s) s) s) := by
  have off : (inServing (fun s => allRoutes.foldl (fun s r => answerCrossing r s) s) s).offPaths = s.offPaths :=
    offPaths_inServing (fun s => offPaths_fold (fun s r => offPaths_answerCrossing r s) _ s) s
  refine ⟨?_, c.contexts.of_same (by rw [State.offPaths_eq off]) (by rw [State.offPaths_eq off])⟩
  cases h : s.service with
  | configuring =>
    rw [inServing_configuring h]
    refine ⟨c.idle, c.whole, fun r => routeWithin_iff.2 ?_, c.frames⟩
    obtain ⟨bound, swap, -⟩ := c.idle.routes h r
    rw [bound, swap]
    exact ⟨nofun, nofun⟩
  | serving =>
    rw [inServing_serving h] at off ⊢
    obtain ⟨m, fits⟩ := answerCrossings_sound c.whole.sound c.permitted
    exact c.whole.answered c.frames h off m fits

theorem evaluateAllRoaming_inOrder {s : State} (g : InOrder s) : InOrder (evaluateAllRoaming s) :=
  g.charged (.evaluateAllRoaming s) (offCharge_evaluateAllRoaming s)

/-- The sessions that a crossing parks are those of a SERVING service. -/
theorem parkAll_inOrder {s : State} (g : InOrder s) {handles : List Nat} (active : ∀ h ∈ handles, h ∈ s.activeSessions) :
    InOrder (handles.foldl (fun s h => park h s) s) := by
  cases h : s.service with
  | serving => exact (SessionMove.fold (fun s h => .park h s) handles s).inOrder g h
  | configuring =>
    have none : handles = [] := List.eq_nil_iff_forall_not_mem.2 fun j hj => by
      have := active j hj
      rw [State.activeSessions, (g.paths.idle.frames h).1] at this
      cases this
    rw [none]
    exact g

theorem crossing_inOrder {s : State} (c : Crossable s) (x : Crossing) : InOrder (crossing x s) := by
  have roamed := evaluateAllRoaming_inOrder c.answered
  unfold crossing
  dsimp only
  generalize evaluateAllRoaming _ = u at roamed ⊢
  have parked := parkAll_inOrder roamed (handles := if x.new.2.silent then u.activeSessions else []) fun h => by
    split
    · exact id
    · nofun
  exact (closeAll_inOrder parked _).of_view rfl

theorem publish_inOrder {s : State} (c : Crossable s) (cause : CrossingCause) (old : Option (Nat × Segment))
    (current : s.segment.isSome = true) : InOrder (publish cause old s) := by
  rw [← s.currentRecord_segment, Option.isSome_map] at current
  obtain ⟨new, h⟩ := Option.isSome_iff_exists.1 current
  rw [publish_current h]
  exact crossing_inOrder c _

/-! ### The tracker (R5, R6, R10 to R14) -/

/-- A table that is not empty has a segment at every distance. -/
theorem getElem_segmentAt {table : List Segment} (h : table ≠ []) (d : Nat) : (table[segmentAt table d]?).isSome = true := by
  have pos := List.length_pos_iff.2 h
  have le := List.length_filter_le (fun g : Segment => decide (g.start ≤ d)) table
  rw [Option.isSome_iff_ne_none, Ne, List.getElem?_eq_none_iff]
  unfold segmentAt
  omega

theorem becomeStale_inOrder {s : State} (g : InOrder s) : InOrder (becomeStale s) := by
  unfold becomeStale
  split
  · next f _ h => exact g.setZone _ (by simp [State.segment, State.segmentIndex, Tracker.fix?, h])
  all_goals exact g

theorem firstFix_inOrder {s : State} (g : InOrder s) (d : Nat) (table : s.zone.table ≠ []) : InOrder (firstFix d s) :=
  publish_inOrder (g.crossable _) .firstFix none (getElem_segmentAt table d)

/-- The zone tracker LOCATED by a report: in a segment, at a distance. -/
def Zone.reported (z : Zone) (segment distance now deadline : Nat) (run : Option (RunDirection × Nat)) : Zone :=
  { z with tracker := .located { segment := segment, distance := distance, time := now } deadline, run := run }

/-- A GOOD report moves the zone tracker, on the table there is: to the segment at its distance, which is published, or within
the segment as it was. -/
theorem goodReport_cases (f : Fix) (d : Nat) (s : State) : ∃ z : Zone, z.table = s.zone.table ∧
    ((z.tracker.fix?.map (·.segment) = some (segmentAt s.zone.table d)
        ∧ goodReport f d s = (publish .confirmed (s.segmentRecord f.segment) { s with zone := z }, true))
      ∨ z.tracker.fix?.map (·.segment) = some f.segment ∧ goodReport f d s = ({ s with zone := z }, false)) := by
  obtain ⟨confirmed, run, h⟩ : ∃ (confirmed : Bool) (run : Option (RunDirection × Nat)), goodReport f d s =
      (let z := s.zone.reported (if confirmed then segmentAt s.zone.table d else f.segment) d s.now (s.after s.zone.staleLimit) run
      if confirmed then (publish .confirmed (s.segmentRecord f.segment) { s with zone := z }, true)
      else ({ s with zone := z }, false)) := ⟨_, _, rfl⟩
  refine ⟨s.zone.reported (if confirmed then segmentAt s.zone.table d else f.segment) d s.now (s.after s.zone.staleLimit) run,
    rfl, ?_⟩
  cases confirmed
  · exact .inr ⟨rfl, h⟩
  · exact .inl ⟨rfl, h⟩

theorem goodReport_inOrder {s : State} (g : InOrder s) {f : Fix} (fix : s.zone.tracker.fix? = some f) (d : Nat)
    (table : s.zone.table ≠ []) : InOrder (goodReport f d s).1 := by
  obtain ⟨z, same, ⟨segment, report⟩ | ⟨segment, report⟩⟩ := goodReport_cases f d s
  all_goals rw [report]
  · refine publish_inOrder (g.crossable z) .confirmed _ ?_
    show (Option.bind (z.tracker.fix?.map (·.segment)) fun i => z.table[i]?).isSome = true
    rw [segment, same]
    exact getElem_segmentAt table d
  · refine g.setZone z ?_
    show (Option.bind (z.tracker.fix?.map (·.segment)) fun i => z.table[i]?)
      = Option.bind (s.zone.tracker.fix?.map (·.segment)) fun i => s.zone.table[i]?
    rw [segment, same, fix]
    rfl

theorem goodPosition_inOrder {s : State} (g : InOrder s) (d : Nat) (table : s.zone.table ≠ []) : InOrder (goodPosition d s).1 := by
  unfold goodPosition
  split
  · exact startCheck_inOrder (firstFix_inOrder g d table)
  · next f _ h => exact goodReport_inOrder g (by rw [h]; rfl) d table
  · next f h => exact startCheck_inOrder (goodReport_inOrder g (by rw [h]; rfl) d table)

theorem answerPosition_keeps {s : State} (g : Standing s) (f : Nat × Nat) : AnswerKeeps (answerPosition f s) := by
  unfold answerPosition
  split
  · trivial
  · split
    · trivial
    · next table =>
      split
      · exact g.of_view (pathView_count ..)
      · exact goodPosition_inOrder g.toInOrder f.1 fun e => table (by rw [e]; rfl)

/-! ### ZONE_LOAD (R2 to R6) -/

theorem ne_nil_of_zoneFault {l : List RawSegment} (h : zoneFault l = none) : l ≠ [] := by
  rintro rfl
  cases h

/-- The tracker on a new table has a segment, or is UNLOCATED as before. -/
theorem relocated_segment {z : Zone} (table : z.table ≠ []) (now : Nat) :
    (z.relocated now = .unlocated ∧ z.tracker = .unlocated) ∨
      ∃ f, (z.relocated now).fix? = some f ∧ (z.table[f.segment]?).isSome = true := by
  unfold Zone.relocated
  split
  · next h => exact .inl ⟨rfl, h⟩
  · refine .inr ?_
    dsimp only
    split <;> exact ⟨_, rfl, getElem_segmentAt table _⟩
  · exact .inr ⟨_, rfl, getElem_segmentAt table _⟩

theorem loadZones_inOrder {s : State} (g : InOrder s) {f : ZoneLoadFields} (sound : zoneFault f.segments = none) :
    InOrder (loadZones f s) := by
  have table : (s.zone.install f).table ≠ [] := fun e => ne_nil_of_zoneFault sound (List.map_eq_nil_iff.1 e)
  unfold loadZones
  dsimp only
  refine startCheck_inOrder ?_
  rcases relocated_segment table s.now with ⟨un, was⟩ | ⟨x, fix, segment⟩
  · rw [un]
    exact g.setZone _ (by simp [State.segment, State.segmentIndex, Tracker.fix?, show s.zone.tracker = .unlocated from was])
  · have published := publish_inOrder (g.crossable { s.zone.install f with tracker := (s.zone.install f).relocated s.now })
      .reload s.currentRecord (by simpa [State.segment, State.segmentIndex, fix] using segment)
    split
    · next un => rw [un] at fix; cases fix
    all_goals exact published

theorem answerZoneLoad_keeps {s : State} (g : Standing s) (f : ZoneLoadFields) : AnswerKeeps (answerZoneLoad f s) := by
  unfold answerZoneLoad
  split
  · trivial
  · next sound => exact loadZones_inOrder g.toInOrder sound

theorem execStaleExpiry_keeps {s : State} (g : Standing s) : Keeps (execStaleExpiry s) :=
  .ite (fun _ => event_keeps (becomeStale_inOrder g.toInOrder)) fun _ => g.keeps

/-! ### TARIFF_LOAD (R130, R131) -/

theorem loadTariff_inOrder {s : State} (g : InOrder s) (l : List RawTariff) : InOrder (loadTariff l s) :=
  startCheck_inOrder (evaluateAllRoaming_inOrder ((closeAll_inOrder g (s.openList.map fun i => (i, .tariff))).of_view rfl))

theorem answerTariffLoad_keeps {s : State} (g : Standing s) (l : List RawTariff) : AnswerKeeps (answerTariffLoad l s) := by
  unfold answerTariffLoad
  split
  · trivial
  · split
    · trivial
    · exact loadTariff_inOrder g.toInOrder l

end Sys2Proof.Machine
end

section
/-! SUPPORT. Frames that join and leave keep the laws (05 sections 6.4 to 6.6). -/

namespace Sys2Proof.Machine

/-! ### A frame joins (R98, R100) -/

/-- A session has a frame queued where one of its frames is on a link or in the pool. -/
theorem State.queuedFrames_pos_iff (s : State) (h : Nat) :
    0 < s.queuedFrames h ↔ (∃ k c, ∃ f ∈ (s.linkQueues k).frames.get c, f.session = h)
      ∨ ∃ c, ∃ f ∈ s.pool.get c, f.session = h := by
  have zero : s.queuedFrames h = 0 ↔ (∀ k c, ∀ f ∈ (s.linkQueues k).frames.get c, f.session ≠ h)
      ∧ ∀ c, ∀ f ∈ s.pool.get c, f.session ≠ h := by
    simp [State.queuedFrames, List.sum_eq_zero_iff, countFrames_eq_zero, mem_allLinks]
  rw [Nat.pos_iff_ne_zero, Ne, zero, not_and_or]
  push Not
  rfl

/-- Frames that join leave every closing session waiting that did. -/
theorem ClosingsWait.more_frames {s t : State} (w : ClosingsWait s) (sessions : t.sessions = s.sessions) (slots : t.slots = s.slots)
    (links : ∀ k c, (s.linkQueues k).frames.get c ⊆ (t.linkQueues k).frames.get c) (pool : ∀ c, s.pool.get c ⊆ t.pool.get c) :
    ClosingsWait t := by
  intro h x hx closing
  rw [State.session, sessions] at hx
  refine (w h x hx closing).imp (fun pos => ?_) fun sealed => ?_
  · rw [State.queuedFrames_pos_iff] at pos ⊢
    exact pos.imp (fun ⟨k, c, f, hf, e⟩ => ⟨k, c, f, links k c hf, e⟩) fun ⟨c, f, hf, e⟩ => ⟨c, f, pool c hf, e⟩
  · rwa [State.openContexts, State.sealedContexts, slots]

theorem joinLink_frames (k j : LinkId) (f : Frame) (c : TrafficClass) (s : State) :
    ((joinLink k f s).linkQueues j).frames.get c
      = if j = k ∧ c = f.cls then (s.linkQueues j).frames.get c ++ [f] else (s.linkQueues j).frames.get c := by
  by_cases hj : j = k
  · subst j
    by_cases hc : c = f.cls
    · rw [hc, joinLink_frames_self, if_pos ⟨rfl, rfl⟩]
    · rw [joinLink_frames_ne k hc, if_neg fun e => hc e.2]
  · rw [joinLink_linkQueues_ne hj, if_neg fun e => hj e.1]

theorem mem_joinLink {k j : LinkId} {f x : Frame} {c : TrafficClass} {s : State} :
    x ∈ ((joinLink k f s).linkQueues j).frames.get c
      ↔ x ∈ (s.linkQueues j).frames.get c ∨ (j = k ∧ c = f.cls ∧ x = f) := by
  rw [joinLink_frames]
  split
  · next h => simp [h]
  · next h =>
    refine ⟨.inl, fun hx => hx.resolve_right fun ⟨hj, hc, _⟩ => h ⟨hj, hc⟩⟩

theorem joinLink_carries {k j : LinkId} {f : Frame} {s : State} {r : RouteId} :
    (joinLink k f s).carries r j ↔ s.carries r j ∨ (j = k ∧ f.route = some r) := by
  simp only [State.carries, mem_joinLink]
  constructor
  · rintro ⟨c, x, hx | ⟨hj, -, rfl⟩, route⟩
    · exact .inl ⟨c, x, hx, route⟩
    · exact .inr ⟨hj, route⟩
  · rintro (⟨c, x, hx, route⟩ | ⟨hj, route⟩)
    · exact ⟨c, x, .inl hx, route⟩
    · exact ⟨f.cls, f, .inr ⟨hj, rfl, rfl⟩, route⟩

theorem State.loaded_iff (s : State) (k : LinkId) : s.loaded k ↔ ∃ c, ∃ f, f ∈ (s.linkQueues k).frames.get c :=
  exists_congr fun _ => by rw [Ne, List.eq_nil_iff_forall_not_mem, not_forall_not]

theorem joinLink_loaded {k j : LinkId} {f : Frame} {s : State} : (joinLink k f s).loaded j ↔ s.loaded j ∨ j = k := by
  simp only [State.loaded_iff, mem_joinLink]
  constructor
  · rintro ⟨c, x, hx | ⟨hj, -⟩⟩
    · exact .inl ⟨c, x, hx⟩
    · exact .inr hj
  · rintro (⟨c, x, hx⟩ | hj)
    · exact ⟨c, x, .inl hx⟩
    · exact ⟨f.cls, f, .inr ⟨hj, rfl, rfl⟩⟩

/-- A frame joins a link to which its route is bound: every frame is on a path still (R94). -/
theorem joinLink_whole {s : State} (w : PathsWhole s) {k : LinkId} {f : Frame} {r : RouteId} (route : f.route = some r)
    (bound : (s.route r).bound = some k) : PathsWhole (joinLink k f s) where
  sound := by
    constructor
    case held => exact w.sound.held
    case drained => exact fun q j h => .inl (joinLink_carries.2 (.inl (w.drains q j h)))
    case carried =>
      intro q j h
      rcases joinLink_carries.1 h with h | ⟨rfl, e⟩
      · exact w.sound.carried q j h
      · obtain rfl : r = q := Option.some.inj (route.symm.trans e)
        exact .inl bound
    case loaded =>
      intro j h
      rcases joinLink_loaded.1 h with h | rfl
      · exact w.sound.loaded j h
      · exact .inl (w.bound r j bound)
    case used => exact fun j h => (w.sound.used j h).imp_right (.imp_left fun l => joinLink_loaded.2 (.inl l))
  bound := w.bound
  drains q j h := joinLink_carries.2 (.inl (w.drains q j h))

theorem occupancyAll_set (p : PerClass (List Frame)) (c : TrafficClass) (f : Frame) :
    occupancyAll (p.set c (p.get c ++ [f])) = occupancyAll p + f.blocks := by
  cases c <;> simp only [occupancyAll, PerClass.set, PerClass.get, occupancy_append_singleton] <;> omega

/-- A latch that follows the occupancy follows it after a frame has joined (R95). -/
theorem LatchFollows.joinLink {k j : LinkId} {c : TrafficClass} {f : Frame} {s : State} (h : LatchFollows s j c) :
    LatchFollows (joinLink k f s) j c := by
  by_cases here : j = k ∧ c = f.cls
  · obtain ⟨rfl, rfl⟩ := here
    obtain ⟨marks, low, high⟩ := h
    have link : (Machine.joinLink j f s).link j = s.link j := rfl
    rw [LatchFollows, link, joinLink_frames_self, joinLink_latch_self, latchRaised_eq_or, occupancy_append_singleton]
    refine ⟨marks, fun lit => ?_, fun full => ?_⟩
    · rcases (Bool.or_eq_true_iff).1 lit with lit | passed
      · have := low lit; omega
      · have := of_decide_eq_true passed; omega
    · rw [Bool.or_eq_true_iff, decide_eq_true_iff]
      by_cases before : ((s.link j).marks.get f.cls).high ≤ occupancy ((s.linkQueues j).frames.get f.cls)
      · exact .inl (high before)
      · exact .inr (by omega)
  · have latch : ((Machine.joinLink k f s).linkQueues j).latch.get c = (s.linkQueues j).latch.get c := by
      by_cases hj : j = k
      · subst j; exact joinLink_latch_ne k (fun e => here ⟨rfl, e⟩) s
      · rw [joinLink_linkQueues_ne hj]
    rw [LatchFollows, joinLink_frames, if_neg here, latch]
    exact h

/-- What the checks of R97 have seen of an admitted frame. -/
theorem classifyUplink_ok {s : State} {tag : Nat} {source : BitVec 32} {length : Nat} {k : LinkId} {f : Frame}
    (h : s.classifyUplink tag source length = .ok (k, f)) :
    legalLength length = true ∧ ∃ j c x, s.session j = some x ∧ (s.route x.group).bound = some k
      ∧ occupancyAll (s.linkQueues k).frames + blocksOf length ≤ (s.link k).share ∧ f = s.uplinkRecord j x c k length := by
  unfold State.classifyUplink at h
  split at h
  · cases h
  · next legal =>
    split at h
    · cases h
    · next j c _ =>
      split at h
      · cases h
      · next x session =>
        split at h
        · cases h
        split at h
        · cases h
        split at h
        · cases h
        split at h
        · cases h
        · next bound =>
          split at h
          · cases h
          · next room =>
            cases h
            exact ⟨by simpa using legal, j, c, x, session, bound, Nat.not_lt.1 room, rfl⟩

theorem execUplinkFrame_keeps {s : State} (g : Standing s) (tag : Nat) (source : BitVec 32) (length : Nat) :
    Keeps (execUplinkFrame tag source length s) := by
  unfold execUplinkFrame
  split
  · exact (g.of_view (pathView_count ..)).keeps
  · next k f ok =>
    obtain ⟨legal, j, c, x, session, bound, room, rfl⟩ := classifyUplink_ok ok
    have serving := g.paths.serving_of_session session
    obtain ⟨short, long⟩ := (legalLength_iff length).1 legal
    refine Standing.keeps ⟨⟨⟨fun h => ?_, joinLink_whole g.paths.whole rfl bound, g.paths.fits, fun i b y hy => ?_, fun i => ?_,
      fun i b => (g.paths.frames.latch i b).joinLink⟩, g.contexts.of_same rfl rfl⟩,
      g.waits.more_frames rfl rfl (fun i b y hy => mem_joinLink.2 (.inl hy)) fun _ _ => id⟩
    · exact absurd (serving.symm.trans h) nofun
    · rcases mem_joinLink.1 hy with hy | ⟨rfl, rfl, rfl⟩
      · exact g.paths.frames.frame i b y hy
      · exact ⟨rfl, rfl, rfl, short, long, rfl, Option.isSome_iff_exists.2 ⟨x, session⟩, _, rfl⟩
    · by_cases here : i = k
      · subst i
        rw [joinLink, State.linkQueues_setLinkQueues_self, occupancyAll_set]
        exact room
      · rw [joinLink_linkQueues_ne here]
        exact g.paths.frames.share i

theorem classifyDownlink_ok {s : State} {k : LinkId} {a : BitVec 32} {c : TrafficClass} {length : Nat} {f : Frame}
    (h : s.classifyDownlink k a c length = .ok f) : ∃ j x, s.session j = some x := by
  unfold State.classifyDownlink at h
  split at h
  · cases h
  split at h
  · cases h
  split at h
  · cases h
  split at h
  · cases h
  · next x session => exact ⟨_, x, session⟩

theorem execDownlinkFrame_keeps {s : State} (g : Standing s) (k : LinkId) (a : BitVec 32) (c : TrafficClass) (length : Nat) :
    Keeps (execDownlinkFrame k a c length s) := by
  have counted : Standing (countReceived k length s) := g.of_view rfl
  unfold execDownlinkFrame
  dsimp only
  split
  · exact (counted.of_view (pathView_count ..)).keeps
  · next f ok =>
    obtain ⟨j, x, session⟩ := classifyDownlink_ok ok
    refine Standing.keeps ⟨counted.toInOrder.on_sessions rfl (counted.paths.serving_of_session session) fun _ => id,
      counted.waits.more_frames rfl rfl (fun _ _ => List.Subset.refl _) fun b y hy => ?_⟩
    show y ∈ (PerClass.set _ f.cls _).get b
    by_cases here : b = f.cls
    · rw [here, PerClass.get_set_self]
      exact List.mem_append_left _ (here ▸ hy)
    · rwa [PerClass.get_set_ne _ here]

end Sys2Proof.Machine
end

section
/-! SUPPORT. Frames that are sent, delivered or aged keep the laws (05 section 6.6, R101 to R105). -/

namespace Sys2Proof.Machine

/-! ### A head leaves a link -/

/-- A state in which the head of a link's class queue has left, and was counted and metered, but its route and its link have yet to be
judged. -/
structure HeadLeft (k : LinkId) (c : TrafficClass) (rest : List Frame) (s t : State) : Prop where
  same : ∃ slots openList sealList accounts crq sessions raised counters,
    t = { leaveLink k c rest s with slots := slots, openList := openList, sealList := sealList, accounts := accounts, crq := crq,
                                    sessions := sessions, raised := raised, counters := counters }
  seated : ∀ h, (s.session h).isSome = true → (t.session h).isSome = true
  contexts : ContextsOpen t

theorem MoneyFrame.seated {s t : State} (m : MoneyFrame s t) {h : Nat} (seated : (s.session h).isSome = true) :
    (t.session h).isSome = true := by
  rcases m.session h with e | ⟨x, causes, -, ht⟩
  · rwa [e]
  · rw [ht]; rfl

/-- A head sent, counted and metered. -/
theorem headLeft_sent {s : State} (o : ContextsOpen s) (k : LinkId) (c : TrafficClass) (f : Frame) (rest : List Frame) :
    HeadLeft k c rest s (meterFrame f.session f.cls .up f.length
      (((leaveLink k c rest s).count (.framesSent k) 1).count (.bytesSent k) f.length)) := by
  have m := MoneyFrame.meterFrame f.session f.cls .up f.length
    (((leaveLink k c rest s).count (.framesSent k) 1).count (.bytesSent k) f.length)
  have contexts := meterFrame_contextsOpen (s := ((leaveLink k c rest s).count (.framesSent k) 1).count (.bytesSent k) f.length)
    (o.of_same rfl rfl) f.session f.cls .up f.length
  refine ⟨?_, fun h seated => m.seated seated, contexts⟩
  obtain ⟨_, _, _, _, _, _, _, e⟩ := m.same
  exact ⟨_, _, _, _, _, _, _, _, e⟩

theorem headLeft_aged {s : State} (o : ContextsOpen s) (k : LinkId) (c : TrafficClass) (rest : List Frame) :
    HeadLeft k c rest s ((leaveLink k c rest s).count (.aged k c) 1) :=
  ⟨⟨_, _, _, _, _, _, _, _, rfl⟩, fun _ => id, o.of_same rfl rfl⟩

namespace HeadLeft

variable {k : LinkId} {c : TrafficClass} {f : Frame} {rest : List Frame} {s t : State}

theorem moved (m : HeadLeft k c rest s t) (queue : (s.linkQueues k).frames.get c = f :: rest) : Moved s t := by
  obtain ⟨_, _, _, _, _, _, _, _, rfl⟩ := m.same
  have shorter : rest.Sublist ((s.linkQueues k).frames.get c) := queue ▸ List.sublist_cons_self f rest
  exact (Moved.leaveLink k c shorter).trans (.of_same rfl rfl rfl rfl)

theorem frames (m : HeadLeft k c rest s t) (j : LinkId) (b : TrafficClass) :
    (t.linkQueues j).frames.get b = if j = k ∧ b = c then rest else (s.linkQueues j).frames.get b := by
  obtain ⟨_, _, _, _, _, _, _, _, rfl⟩ := m.same
  exact leaveLink_frames k j c b rest s

theorem link (m : HeadLeft k c rest s t) (j : LinkId) : t.link j = s.link j := by
  obtain ⟨_, _, _, _, _, _, _, _, rfl⟩ := m.same; rfl

theorem route (m : HeadLeft k c rest s t) (r : RouteId) : t.route r = s.route r := by
  obtain ⟨_, _, _, _, _, _, _, _, rfl⟩ := m.same; rfl

theorem service (m : HeadLeft k c rest s t) : t.service = s.service := by
  obtain ⟨_, _, _, _, _, _, _, _, rfl⟩ := m.same; rfl

/-- What was carried is carried still, but for the head's route on its link. -/
theorem carries (m : HeadLeft k c rest s t) {r : RouteId} (queue : (s.linkQueues k).frames.get c = f :: rest)
    (route : f.route = some r) {q : RouteId} {j : LinkId} (h : s.carries q j) : t.carries q j ∨ (q = r ∧ j = k) := by
  obtain ⟨b, x, hx, hr⟩ := h
  by_cases here : j = k ∧ b = c
  · obtain ⟨rfl, rfl⟩ := here
    rw [queue] at hx
    rcases List.mem_cons.1 hx with rfl | hx
    · exact .inr ⟨Option.some.inj (hr.symm.trans route), rfl⟩
    · exact .inl ⟨b, x, by rwa [m.frames, if_pos ⟨rfl, rfl⟩], hr⟩
  · exact .inl ⟨b, x, by rwa [m.frames, if_neg here], hr⟩

/-- A head that has left may have emptied its link, or the drain of its route there. -/
theorem pathsBut (m : HeadLeft k c rest s t) (w : PathsWhole s) {r : RouteId}
    (queue : (s.linkQueues k).frames.get c = f :: rest) (route : f.route = some r) :
    PathsBut r noLink (t.drainsOn r k ∧ ¬t.carries r k) (· = k) t := by
  have loaded : ∀ j, s.loaded j → t.loaded j ∨ j = k := fun j ⟨b, hb⟩ => by
    by_cases here : j = k
    · exact .inr here
    · exact .inl ⟨b, by rwa [m.frames, if_neg fun e => here e.1]⟩
  have drains : ∀ q j, t.drainsOn q j ↔ s.drainsOn q j := fun q j => by rw [State.drainsOn, State.drainsOn, m.route]
  have moved := m.moved queue
  constructor
  case held =>
    intro q j h
    rw [m.link]
    exact w.sound.held q j (by rwa [← m.route])
  case drained =>
    intro q j h
    rcases m.carries queue route (w.drains q j ((drains q j).1 h)) with h' | ⟨rfl, rfl⟩
    · exact .inl h'
    · by_cases left : t.carries q j
      · exact .inl left
      · exact .inr (.inr ⟨rfl, h, left⟩)
  case carried =>
    intro q j h
    rw [m.route, drains]
    exact (w.sound.carried q j (moved.carries h)).imp_right (.imp_right fun ⟨_, e⟩ => e.elim)
  case loaded =>
    intro j h
    rw [m.link]
    exact w.sound.loaded j (moved.loaded h)
  case used =>
    intro j h
    rw [m.link] at h
    rcases w.sound.used j h with ⟨q, b⟩ | l | l
    · exact .inl ⟨q, by rwa [m.route]⟩
    · exact .inr (loaded j l)
    · exact l.elim

end HeadLeft

/-- A drain that has emptied ends (R49), and the link is judged (R24, R31). -/
theorem uplinkLeft_sound {s : State} {r : RouteId} {k : LinkId} (p : PathsBut r noLink (s.drainsOn r k ∧ ¬s.carries r k) (· = k) s) :
    SoundMove s (uplinkLeft k (some r) s) := by
  obtain ⟨t, ht, moved, paths⟩ : ∃ t, t = (if (s.route r).draining.map (·.1) = some k ∧ s.routeFrames r k = 0 then
      s.modifyRoute r fun x => { x with draining := none } else s) ∧ Moved s t ∧ PathsBut r noLink False (· = k) t := by
    refine ⟨_, rfl, ?_⟩
    split
    · next emptied =>
      obtain ⟨drains, empty⟩ := emptied
      have empty := (s.routeFrames_eq_zero r k).1 empty
      refine ⟨.setRoute s r _ rfl (fun _ => .inl) (fun _ => .inl) nofun,
        p.setRoute _ (fun j h => p.held r j h) nofun (fun j h => ?_) fun j h => h⟩
      rcases p.carried r j h with b | d | ⟨-, ⟨⟩⟩
      · exact .inl b
      · obtain rfl : k = j := Option.some.inj (drains.symm.trans d)
        exact absurd h empty
    · next full =>
      refine ⟨.refl s, p.mono (fun _ => id) (fun ⟨drains, empty⟩ => full ⟨drains, ?_⟩) fun _ => id⟩
      exact (s.routeFrames_eq_zero r k).2 empty
  have judged := judgeIdle_judged k t
  rw [show uplinkLeft k (some r) s = judgeIdle k t by rw [ht]; rfl]
  exact ⟨(judged.pathsBut (fun i ne h => absurd h ne) paths).sound, moved.trans judged.moved⟩

/-- The head of a link's class queue has left, and its route and its link have been judged. -/
theorem uplinkLeft_inOrder {s t : State} (g : InOrder s) (serving : s.service = .serving) {k : LinkId} {c : TrafficClass}
    {f : Frame} {rest : List Frame} (queue : (s.linkQueues k).frames.get c = f :: rest) (m : HeadLeft k c rest s t) :
    InOrder (uplinkLeft k f.route t) := by
  obtain ⟨-, -, -, -, -, -, -, r, route⟩ := g.paths.frames.frame k c f (by rw [queue]; exact List.mem_cons_self)
  rw [route]
  have left := uplinkLeft_sound (m.pathsBut g.paths.whole queue route)
  have off : (uplinkLeft k (some r) t).offPaths = t.offPaths := by simp
  have move : SoundMove s (uplinkLeft k (some r) t) := ⟨left.sound, (m.moved queue).trans left.moved⟩
  refine ⟨⟨fun h => ?_, g.paths.whole.moved move, fun q => move.moved.routeFits (g.paths.fits q),
    g.paths.frames.moved move.moved fun _ _ _ _ h => ?_⟩,
    m.contexts.of_same (by rw [State.offPaths_eq off]) (by rw [State.offPaths_eq off])⟩
  · rw [offPaths_service off, m.service, serving] at h
    cases h
  · rw [offPaths_session off]
    exact m.seated _ h

/-! ### The transmit arbiter (R101 to R103) -/

/-- The end of closing of some sessions. -/
theorem endClosings_inOrder {s : State} (g : InOrder s) (serving : s.service = .serving) (handles : List Nat) :
    InOrder (endClosings handles s) ∧ ClosingsRan s (endClosings handles s) := by
  obtain ⟨contexts, ran, -⟩ := endClosings_ended handles s g.contexts
  exact ⟨g.ran ran contexts fun h => absurd (serving.symm.trans h) nofun, ran⟩

theorem ClosingsRan.fixed {s t : State} (m : ClosingsRan s t) :
    t.service = s.service ∧ t.queues = s.queues ∧ t.pool = s.pool := by
  obtain ⟨_, _, _, _, _, _, _, rfl⟩ := m.same
  exact ⟨rfl, rfl, rfl⟩

theorem sendHead_inOrder {s : State} (g : InOrder s) (serving : s.service = .serving) {k : LinkId} {c : TrafficClass} {f : Frame}
    {rest : List Frame} (queue : (s.linkQueues k).frames.get c = f :: rest) :
    InOrder (sendHead k c f rest (endClosingsBefore f s)) := by
  obtain ⟨g', ran⟩ := endClosings_inOrder g serving (s.sessions.keys.filter fun h => !s.lastOfClosing f || decide (h < f.session))
  obtain ⟨service, queues, -⟩ := ran.fixed
  exact uplinkLeft_inOrder g' (service.trans serving) (by rwa [State.linkQueues, queues]) (headLeft_sent g'.contexts k c f rest)

theorem transmit_inOrder (k : LinkId) : ∀ (n : Nat) {s : State}, InOrder s → s.service = .serving → InOrder (transmit n k s)
  | 0, _, g, _ => g
  | n + 1, s, g, serving => by
    unfold transmit
    split
    · exact g
    · next c _ =>
      split
      · exact g
      · next f rest queue =>
        split
        · refine transmit_inOrder k n (uplinkLeft_inOrder g serving queue (headLeft_aged g.contexts k c rest)) ?_
          have off : (ageHead k c f rest s).offPaths = s.offPaths := by simp [ageHead]
          exact (offPaths_service off).trans serving
        · exact sendHead_inOrder g serving queue

theorem execTransmitOpportunity_keeps {s : State} (g : Standing s) (k : LinkId) : Keeps (execTransmitOpportunity k s) := by
  refine event_keeps ?_
  cases h : s.service with
  | serving => exact transmit_inOrder k _ g.toInOrder h
  | configuring =>
    obtain ⟨-, -, queues⟩ := g.paths.idle.frames h
    rw [queues]
    exact g.toInOrder

/-! ### The pool arbiter (R104) -/

theorem poolHead_inOrder {s : State} (g : InOrder s) (serving : s.service = .serving) (pool : PerClass (List Frame)) :
    InOrder { s with pool := pool } := g.on_sessions rfl serving fun _ => id

theorem deliver_inOrder : ∀ (n : Nat) {s : State}, InOrder s → s.service = .serving → InOrder (deliver n s)
  | 0, _, g, _ => g
  | n + 1, s, g, serving => by
    unfold deliver
    split
    · exact g
    · next c _ =>
      split
      · exact g
      · next f rest _ =>
        split
        · exact deliver_inOrder n ((poolHead_inOrder g serving (s.pool.set c rest)).of_view (pathView_count ..)) serving
        · obtain ⟨g', ran⟩ := endClosings_inOrder g serving
            (s.sessions.keys.filter fun h => !s.lastOfClosing f || decide (h < f.session))
          have serving' := ran.fixed.1.trans serving
          have left := poolHead_inOrder g' serving' ((endClosingsBefore f s).pool.set c rest)
          exact left.money (.meterFrame ..) (meterFrame_contextsOpen left.contexts ..) fun h =>
            absurd (serving'.symm.trans h) nofun

theorem execDeliveryOpportunity_keeps {s : State} (g : Standing s) : Keeps (execDeliveryOpportunity s) := by
  refine event_keeps ?_
  cases h : s.service with
  | serving => exact deliver_inOrder _ g.toInOrder h
  | configuring =>
    obtain ⟨-, pool, -⟩ := g.paths.idle.frames h
    rw [pool]
    exact g.toInOrder

end Sys2Proof.Machine
end

section
/-! SUPPORT. The commands of the ports, the notice unit, the frame store's setup and the voyage clock, and the full reset (08, 09):
none but the full reset touches what the laws of the paths speak of. -/

namespace Sys2Proof.Machine

/-! ### Reads (R17, R37, R65, R89, R140) -/

theorem answerSessionRead_keeps (n : SessionName) (s : State) : AnswerKeeps (answerSessionRead n s) := by
  unfold answerSessionRead
  repeat' split
  all_goals trivial

theorem answerAccountRead_keeps (a : Nat) (s : State) : AnswerKeeps (answerAccountRead a s) := by
  unfold answerAccountRead
  split <;> trivial

theorem answerRouteRead_keeps (n : Nat) (s : State) : AnswerKeeps (answerRouteRead n s) := by
  unfold answerRouteRead
  split <;> trivial

theorem answerLinkRead_keeps (n : Nat) (s : State) : AnswerKeeps (answerLinkRead n s) := by
  unfold answerLinkRead
  split <;> trivial

theorem answerZoneRead_keeps (n : Option Nat) (s : State) : AnswerKeeps (answerZoneRead n s) := by
  unfold answerZoneRead
  repeat' split
  all_goals trivial

/-! ### Settings (R91, R156, R164, R165, R170) -/

theorem answerStoreSetup_keeps {s : State} (g : Standing s) (share : Nat) : AnswerKeeps (answerStoreSetup share s) := by
  unfold answerStoreSetup
  split
  · trivial
  split
  · trivial
  split
  · trivial
  · exact g.of_view rfl

theorem answerClockSet_keeps {s : State} (g : Standing s) (value : Nat) : AnswerKeeps (answerClockSet value s) := g.of_view rfl

theorem answerSetLevel_keeps {s : State} (g : Standing s) (p : Port) (level : Nat) : AnswerKeeps (answerSetLevel p level s) :=
  g.of_view (pathView_modifyPort ..)

theorem answerNoticeSetup_keeps {s : State} (g : Standing s) (p : Port) (f : NoticeSetupFields) :
    AnswerKeeps (answerNoticeSetup p f s) := by
  unfold answerNoticeSetup
  split
  · trivial
  · exact g.of_view (pathView_modifyPort ..)

theorem answerCountersRead_keeps {s : State} (g : Standing s) (p : Port) (code : Nat) :
    AnswerKeeps (answerCountersRead p code s) := by
  unfold answerCountersRead
  split
  · trivial
  · exact g.of_view (pathView_modifyPort ..)

theorem execVoyageClockTick_keeps {s : State} (g : Standing s) : Keeps (execVoyageClockTick s) :=
  .ite (fun _ => Standing.keeps (g.of_view rfl)) fun _ => g.keeps

/-! ### The ports (R147 to R150, R158, R166, R167) -/

@[simp] theorem pathView_resetPort (p : Port) (s : State) : (resetPort p s).pathView = s.pathView := by
  refine (pathView_fold (f := fun s q => gather ⟨q, .peerRestart, p.number⟩ s) (fun s q => pathView_gather _ s) _ _).trans ?_
  refine (pathView_fold (f := fun s k => if s.holds k then gather ⟨p, k, s.conditionSubject k⟩ s else s) (fun s k => ?_) _ _).trans
    (pathView_modifyPort ..)
  split <;> rfl

theorem portReset_keeps {s : State} (g : Standing s) (p : Port) : AnswerKeeps (.settle (resetPort p s) []) :=
  g.of_view (pathView_resetPort p s)

theorem execRequestReceived_keeps {s : State} (g : Standing s) (p : Port) (m : Message) : Keeps (execRequestReceived p m s) := by
  refine .ite (fun _ => g.keeps) fun _ => .ite (fun _ => ?_) fun _ => .ite (fun _ => ?_) fun _ => g.keeps
  · exact Standing.keeps (g.of_view (pathView_modifyPort ..))
  · exact Standing.keeps (g.of_view ((pathView_runArbiter ..).trans (pathView_respond ..)))

theorem execMessageSent_keeps {s : State} (g : Standing s) (p : Port) : Keeps (execMessageSent p s) :=
  .ite (fun _ => g.keeps) fun _ =>
    Standing.keeps (g.of_view ((pathView_runArbiter ..).trans (pathView_modifyPort ..)))

theorem execSyncLost_keeps {s : State} (g : Standing s) (p : Port) : Keeps (execSyncLost p s) :=
  .ite (fun _ => g.keeps) fun _ =>
    Standing.keeps (g.of_view ((pathView_runArbiters _).trans ((pathView_resetPort ..).trans (pathView_modifyPort ..))))

theorem execSyncRegained_keeps {s : State} (g : Standing s) (p : Port) : Keeps (execSyncRegained p s) :=
  Standing.keeps (g.of_view (pathView_modifyPort ..))

theorem execPacingDeadline_keeps {s : State} (g : Standing s) (p : Port) : Keeps (execPacingDeadline p s) :=
  .ite (fun _ => Standing.keeps (g.of_view ((pathView_runArbiter ..).trans (pathView_modifyPort ..)))) fun _ => g.keeps

theorem execNoticeChoice_keeps {s : State} (g : Standing s) (p : Port) : Keeps (execNoticeChoice p s) :=
  Standing.keeps (g.of_view (chooseNotice_ran p s).pathView)

/-! ### FULL_RESET (R157) -/

theorem vector_get_replicate {α : Type} {n : Nat} (x : α) (i : Fin n) : (Vector.replicate n x).get i = x := by
  show (Vector.replicate n x)[i.val] = x
  exact Vector.getElem_replicate i.isLt

/-- With no session, frame or context, no route bound, waiting or draining, and no link ACTIVE, the laws hold. -/
theorem standing_of_nothing {s : State} (sessions : s.sessions = .empty) (bearers : s.bearerMap = .empty) (pool : s.pool = .all [])
    (slots : s.slots = .empty) (queues : ∀ k, s.linkQueues k = .reset) (routes : ∀ r, s.route r = .reset)
    (links : ∀ k, (s.link k).state = .unconfigured ∧ (s.link k).marks = .all ⟨192, 96⟩) : Standing s := by
  have frames : ∀ k c, (s.linkQueues k).frames.get c = [] := fun k c => by rw [queues]; exact PerClass.get_all [] c
  have unloaded : ∀ k, ¬s.loaded k := fun k ⟨c, h⟩ => h (frames k c)
  have uncarried : ∀ r k, ¬s.carries r k := fun r k h => unloaded k h.loaded
  have unbound : ∀ r, (s.route r).bound = none := fun r => by rw [routes]; rfl
  have undrained : ∀ r k, ¬s.drainsOn r k := fun r k => by rw [State.drainsOn, routes]; nofun
  have inactive : ∀ k, (s.link k).state ≠ .active := fun k => by rw [(links k).1]; nofun
  have noSession : ∀ h, s.session h = none := fun h => by rw [State.session, sessions]; rfl
  have sound : PathsSound s :=
    { held := fun r k h => by rw [unbound] at h; cases h
      drained := fun r k h => absurd h (undrained r k)
      carried := fun r k h => absurd h (uncarried r k)
      loaded := fun k h => absurd h (unloaded k)
      used := fun k h => absurd h (inactive k) }
  have whole : PathsWhole s :=
    { sound := sound
      bound := fun r k h => by rw [unbound] at h; cases h
      drains := fun r k h => absurd h (undrained r k) }
  have fits : ∀ r, RouteFits s r := fun r => routeWithin_iff.2 (by rw [routes]; exact ⟨nofun, nofun⟩)
  have latch : ∀ k c, LatchFollows s k c := fun k c => by
    rw [LatchFollows, frames, (links k).2, queues, PerClass.get_all, show LinkQueues.reset.latch.get c = false from PerClass.get_all ..]
    decide
  have inOrder : FramesInOrder s :=
    { frame := fun k c f hf => by rw [frames] at hf; cases hf
      share := fun k => by rw [occupancyAll_of_unloaded (unloaded k)]; exact Nat.zero_le _
      latch := latch }
  have idle : ConfiguringIdle s := fun _ =>
    ⟨sessions, bearers, pool, slots, fun k => (s.queuedOn_eq_zero k).2 (unloaded k),
      fun r => by rw [routes]; exact ⟨rfl, rfl, rfl, rfl⟩⟩
  have contexts : ContextsOpen s :=
    { rising := by rw [slots]; exact List.Pairwise.nil
      listed := fun i e h => by rw [openContext_of_empty slots] at h; cases h
      apart := fun i j x y h => by rw [openContext_of_empty slots] at h; cases h }
  exact ⟨⟨⟨idle, whole, fits, inOrder⟩, contexts⟩, fun h x hx => by rw [noSession] at hx; cases hx⟩

theorem execFullReset_keeps (s : State) : Keeps (execFullReset s) := by
  refine Standing.keeps (standing_of_nothing rfl rfl rfl rfl (vector_get_replicate _) (vector_get_replicate _) fun k => ?_)
  have link : (s.links.map fun l => { Link.reset with carrier := l.carrier }).get k = { Link.reset with carrier := (s.link k).carrier } :=
    Vector.getElem_map ..
  exact ⟨congrArg Link.state link, congrArg Link.marks link⟩

end Sys2Proof.Machine
end

section
/-! PROOFS. Every step keeps frames on their paths. -/

namespace Sys2Proof.Machine

/-- Every command keeps what stands between events. -/
theorem exec_keeps {s : State} (g : Standing s) (i : Instr) : Keeps (exec i s) := by
  cases i with
  | fullReset => exact execFullReset_keeps s
  | requestReceived p m => exact execRequestReceived_keeps g p m
  | invalidRequest p => exact takeRequest_keeps g fun _ _ _ => trivial
  | messageSent p => exact execMessageSent_keeps g p
  | syncLost p => exact execSyncLost_keeps g p
  | syncRegained p => exact execSyncRegained_keeps g p
  | attach p => exact takeRequest_keeps g fun f _ g => answerAttach_keeps g f
  | detach p => exact takeRequest_keeps g fun f _ g => answerDetach_keeps g f
  | bearerAdd p => exact takeRequest_keeps g fun f _ g => answerBearerAdd_keeps g f
  | bearerDrop p => exact takeRequest_keeps g fun f _ g => answerBearerDrop_keeps g f
  | resume p => exact takeRequest_keeps g fun f _ g => answerResume_keeps g f
  | linkSetup p => exact takeRequest_keeps g fun f _ g => answerLinkSetup_keeps g f
  | linkTune p => exact takeRequest_keeps g fun f _ g => answerLinkTune_keeps g f
  | linkPowerOn p => exact takeRequest_keeps g fun f _ g => answerPowerOn_keeps g f
  | linkPowerOff p => exact takeRequest_keeps g fun f _ g => answerPowerOff_keeps g f
  | linkStatusUp p => exact takeRequest_keeps g fun f _ g => answerStatusUp_keeps g f
  | linkStatusDown p => exact takeRequest_keeps g fun f _ g => answerStatusDown_keeps g f
  | linkReport p => exact takeRequest_keeps g fun f _ g => answerLinkReport_keeps g f
  | position p => exact takeRequest_keeps g fun f _ g => answerPosition_keeps g f
  | zoneLoad p => exact takeRequest_keeps g fun f _ g => answerZoneLoad_keeps g f
  | swapRoute p => exact takeRequest_keeps g fun f _ g => checkedSwap_keeps f (answerSwap_keeps g)
  | swapRouteForce p => exact takeRequest_keeps g fun f _ g => checkedSwap_keeps f (answerSwapForce_keeps g)
  | storeSetup p => exact takeRequest_keeps g fun f _ g => answerStoreSetup_keeps g f
  | clockSet p => exact takeRequest_keeps g fun f _ g => answerClockSet_keeps g f
  | start p => exact takeRequest_keeps g fun _ _ g => start_keeps g p
  | tariffLoad p => exact takeRequest_keeps g fun f _ g => answerTariffLoad_keeps g f
  | routePolicy p => exact takeRequest_keeps g fun f _ g => answerRoutePolicy_keeps g f
  | accountOpen p => exact takeRequest_keeps g fun f _ g => answerAccountOpen_keeps g f
  | accountClose p => exact takeRequest_keeps g fun f _ g => answerAccountClose_keeps g f
  | accountCredit p => exact takeRequest_keeps g fun f _ g => answerAccountCredit_keeps g f
  | accountSet p => exact takeRequest_keeps g fun f _ g => answerAccountSet_keeps g f
  | sessionBar p => exact takeRequest_keeps g fun f _ g => answerBar_keeps g f
  | sessionUnbar p => exact takeRequest_keeps g fun f _ g => answerUnbar_keeps g f
  | recordTake p => exact takeRequest_keeps g fun f _ g => answerRecordTake_keeps g f
  | meterSetup p => exact takeRequest_keeps g fun f _ g => answerMeterSetup_keeps g f
  | sessionRead p => exact takeRequest_keeps g fun f u _ => answerSessionRead_keeps f u
  | accountRead p => exact takeRequest_keeps g fun f u _ => answerAccountRead_keeps f u
  | routeRead p => exact takeRequest_keeps g fun f u _ => answerRouteRead_keeps f u
  | linkRead p => exact takeRequest_keeps g fun f u _ => answerLinkRead_keeps f u
  | zoneRead p => exact takeRequest_keeps g fun f u _ => answerZoneRead_keeps f u
  | setLevel p => exact takeRequest_keeps g fun f _ g => answerSetLevel_keeps g p f
  | noticeSetup p => exact takeRequest_keeps g fun f _ g => answerNoticeSetup_keeps g p f
  | countersRead p => exact takeRequest_keeps g fun f _ g => answerCountersRead_keeps g p f
  | portReset p => exact takeRequest_keeps g fun _ _ g => portReset_keeps g p
  | carrierLoss k => exact execCarrierLoss_keeps g k
  | carrierRegain k => exact execCarrierRegain_keeps g k
  | warmUpDeadline k => exact execWarmUpDeadline_keeps g k
  | lingerDeadline k => exact execLingerDeadline_keeps g k
  | staleExpiry => exact execStaleExpiry_keeps g
  | drainDeadline r => exact execDrainDeadline_keeps g r
  | probationDeadline r => exact execProbationDeadline_keeps g r
  | settleDeadline r => exact execSettleDeadline_keeps g r
  | parkDeadline h => exact execParkDeadline_keeps g h
  | intervalDeadline i => exact execIntervalDeadline_keeps g i
  | pacingDeadline p => exact execPacingDeadline_keeps g p
  | voyageClockTick => exact execVoyageClockTick_keeps g
  | uplinkFrame tag source length => exact execUplinkFrame_keeps g tag source length
  | downlinkFrame k destination c length => exact execDownlinkFrame_keeps g k destination c length
  | transmitOpportunity k => exact execTransmitOpportunity_keeps g k
  | deliveryOpportunity => exact execDeliveryOpportunity_keeps g
  | noticeChoice p => exact execNoticeChoice_keeps g p

theorem step_standing {s t : State} (g : Standing s) (h : step s = .next t) : Standing t := by
  unfold step at h
  split at h
  · next c rest _ => exact exec_keeps (g.of_view (t := { s with pending := rest }) rfl) c t h
  · obtain rfl : idle s = t := Host.Outcome.next.inj h
    refine g.of_view ?_
    unfold idle
    split <;> rfl

/-- Settles O59: `Standing`, which every lawful state has, is kept by every command and says the four laws. -/
theorem everyStepKeepsFramesOnTheirPaths : Obligations.EveryStepKeepsFramesOnTheirPaths := by
  have kept : KeptWithin Standing := fun _ _ lawful h => step_standing (standing_of_lawful lawful) h
  exact ⟨fun s t l h => (kept s t l h).paths.idle, fun s t l h => (kept s t l h).paths.lawful,
    fun s t l h => (kept s t l h).paths.latches, fun s t l h => (kept s t l h).waits⟩

end Sys2Proof.Machine
end

section
/-! SUPPORT. Sums over sparse tables: what writing one entry does to the sum of a measure of the entries. -/

namespace Sys2Proof

/-- The sum of a measure over the entries of a table. -/
def Table.total {α : Type} (f : α → Nat) (t : Table α) : Nat := (t.entries.map fun e => f e.2).sum

theorem Table.lookup_eq_none {α : Type} {k : Nat} : ∀ {l : List (Nat × α)}, k ∉ l.map (·.1) → Table.lookup l k = none
  | [], _ => rfl
  | (j, v) :: rest, h => by
    rw [List.map_cons, List.mem_cons, not_or] at h
    rw [Table.lookup, if_neg h.1, Table.lookup_eq_none h.2]

/-- With keys in rising order, removing an entry takes away its measure. -/
theorem Table.sum_without {α : Type} (f : α → Nat) (k : Nat) :
    ∀ l : List (Nat × α), (l.map (·.1)).Pairwise (· < ·) →
      ((Table.without l k).map fun e => f e.2).sum + (Table.lookup l k).elim 0 f = (l.map fun e => f e.2).sum
  | [], _ => rfl
  | (j, v) :: rest, rising => by
    rw [List.map_cons, List.pairwise_cons] at rising
    have ih := Table.sum_without f k rest rising.2
    by_cases h : k = j
    · subst h
      have absent : Table.lookup rest k = none := Table.lookup_eq_none fun mem => Nat.lt_irrefl k (rising.1 k mem)
      rw [absent] at ih
      simp only [Table.without, Table.lookup, if_pos, List.map_cons, List.sum_cons, Option.elim] at ih ⊢
      omega
    · simp only [Table.without, Table.lookup, if_neg h, List.map_cons, List.sum_cons]
      omega

theorem Table.sum_place {α : Type} (f : α → Nat) (k : Nat) (v : α) :
    ∀ l : List (Nat × α), ((Table.place l k v).map fun e => f e.2).sum = f v + (l.map fun e => f e.2).sum
  | [] => by simp [Table.place]
  | (j, w) :: rest => by
    have ih := Table.sum_place f k v rest
    unfold Table.place
    split
    · rfl
    · simp only [List.map_cons, List.sum_cons, ih]
      omega

/-- With keys in rising order, a write exchanges the measure of the old entry for that of the new one. -/
theorem Table.total_put {α : Type} (f : α → Nat) {t : Table α} (rising : t.keys.Pairwise (· < ·)) (k : Nat) (v : Option α) :
    (t.put k v).total f + (t.get? k).elim 0 f = t.total f + v.elim 0 f := by
  have removed := Table.sum_without f k t.entries rising
  cases v with
  | none => exact removed
  | some x =>
    have placed := Table.sum_place f k x (Table.without t.entries k)
    simp only [Table.total, Table.get?, Table.put, Option.elim_some] at *
    omega

end Sys2Proof
end

section
/-! SUPPORT. The open and seal lists, whatever the tariff zone is: the law of them, and that the meter keeps it (06, R112). -/

namespace Sys2Proof.Machine

/-- The number of the current tariff zone, 8 where there is none. -/
def State.zoneNumber (s : State) : Nat := (s.currentZone.map (·.val)).getD 8

/-- The open and seal lists list the OPEN and the SEALED contexts, each once, and a session has at most one OPEN context of a class
(R112, R116). -/
structure Lists (s : State) : Prop where
  openNodup : s.openList.Nodup
  sealNodup : s.sealList.Nodup
  opened : ∀ i, i ∈ s.openList ↔ (s.openContext i).isSome = true
  sealed : ∀ i, i ∈ s.sealList ↔ ∃ v, s.slot i = some v ∧ v.isOpen = false
  apart : ∀ i j x y, s.openContext i = some x → s.openContext j = some y → x.1.session = y.1.session → x.1.cls = y.1.cls → i = j

theorem contextsListed_iff (s : State) :
    ContextsListed s ↔ Lists s ∧ ∀ i e, s.openContext i = some e → e.1.zone = s.zoneNumber := by
  constructor
  · rintro ⟨openNodup, sealNodup, opened, sealed, apart, zone⟩
    exact ⟨⟨openNodup, sealNodup, opened, sealed, fun i j x y => apart i j x.1 y.1 x.2 y.2⟩, fun i e => zone i e.1 e.2⟩
  · rintro ⟨l, zone⟩
    exact ⟨l.openNodup, l.sealNodup, l.opened, l.sealed, fun i j x y d e => l.apart i j (x, d) (y, e),
      fun i x d => zone i (x, d)⟩

theorem slot_put {s t : State} {i : Nat} {v : Option Slot} (h : t.slots = s.slots.put i v) (j : Nat) :
    t.slot j = if j = i then v else s.slot j := by
  rw [State.slot, h, Table.get?_put]
  rfl

theorem openContext_put {s t : State} {i : Nat} {v : Option Slot} (h : t.slots = s.slots.put i v) (j : Nat) :
    t.openContext j = if j = i then v.bind Slot.openPart else s.openContext j := by
  rw [State.openContext_eq, slot_put h]
  split
  · rfl
  · exact (s.openContext_eq j).symm

/-- A slot that holds an OPEN context. -/
theorem State.slot_of_openContext {s : State} {i : Nat} {x : Context} {d : Nat} (h : s.openContext i = some (x, d)) :
    s.slot i = some (.opened x d) := by
  unfold State.openContext at h
  split at h
  · next e => cases h; exact e
  all_goals cases h

theorem State.openContext_of_slot {s : State} {i : Nat} {x : Context} {d : Nat} (h : s.slot i = some (.opened x d)) :
    s.openContext i = some (x, d) := by rw [State.openContext_eq, h]; rfl

namespace Lists

variable {s t : State}

theorem congr (l : Lists s) (slots : t.slots = s.slots) (openList : t.openList = s.openList) (sealList : t.sealList = s.sealList) :
    Lists t := by
  have slot : ∀ i, t.slot i = s.slot i := slot_congr slots
  have context : ∀ i, t.openContext i = s.openContext i := fun i => openContext_congr (slot i)
  constructor
  · rw [openList]; exact l.openNodup
  · rw [sealList]; exact l.sealNodup
  · simpa only [openList, context] using l.opened
  · simpa only [sealList, slot] using l.sealed
  · simpa only [context] using l.apart

/-- A slot that is not OPEN is not in the open list, and an OPEN one not in the seal list. -/
theorem not_mem_openList (l : Lists s) {i : Nat} (h : s.openContext i = none) : i ∉ s.openList := fun mem => by
  have := (l.opened i).1 mem
  rw [h] at this
  cases this

theorem not_mem_sealList (l : Lists s) {i : Nat} {e : Context × Nat} (h : s.openContext i = some e) : i ∉ s.sealList := fun mem => by
  obtain ⟨v, hv, sealed⟩ := (l.sealed i).1 mem
  rw [State.slot_of_openContext h] at hv
  cases hv
  cases sealed

theorem noneOpen (l : Lists s) {h : Nat} {c : TrafficClass} (none : s.findOpen h c = none) : s.NoneOpen h c := by
  rintro i ⟨x, d⟩ hi mine
  have := List.find?_eq_none.1 none i ((l.opened i).2 (by rw [hi]; rfl))
  rw [hi] at this
  exact this (decide_eq_true mine)

/-- A context leaves the open list: its slot is FREE, or SEALED at the end of the seal list. -/
theorem closed (l : Lists s) {i : Nat} {e : Context × Nat} (h : s.openContext i = some e) {v : Option Slot}
    (shut : ∀ w, v = some w → w.isOpen = false) (slots : t.slots = s.slots.put i v)
    (openList : t.openList = s.openList.filter (decide <| · ≠ i))
    (sealList : t.sealList = s.sealList ++ if v.isSome then [i] else []) : Lists t := by
  have slot := slot_put slots
  have context : ∀ j, t.openContext j = if j = i then none else s.openContext j := fun j => by
    rw [openContext_put slots]
    congr 1
    cases v with
    | none => rfl
    | some w =>
      cases w with
      | opened x d => cases shut _ rfl
      | sealed => rfl
  constructor
  · rw [openList]; exact l.openNodup.filter _
  · rw [sealList]
    split
    · exact List.nodup_append.2 ⟨l.sealNodup, List.nodup_singleton i, fun a ha b hb => by
        rw [List.mem_singleton.1 hb]; rintro rfl; exact l.not_mem_sealList h ha⟩
    · simpa using l.sealNodup
  · intro j
    rw [openList, List.mem_filter, decide_eq_true_eq, l.opened, context]
    by_cases here : j = i <;> simp [here]
  · intro j
    rw [sealList, List.mem_append, slot]
    by_cases here : j = i
    · subst j
      rw [if_pos rfl]
      cases v with
      | none => simpa using l.not_mem_sealList h
      | some w => simpa using shut w rfl
    · rw [if_neg here, ← l.sealed]
      cases v <;> simp [here]
  · intro j k x y hj hk
    rw [context] at hj hk
    split at hj
    · cases hj
    · split at hk
      · cases hk
      · exact l.apart j k x y hj hk

/-- An OPEN context is rewritten, of the same session and class. -/
theorem rewrite (l : Lists s) {i : Nat} {x y : Context} {d : Nat} (h : s.openContext i = some (x, d))
    (same : y.session = x.session ∧ y.cls = x.cls) : Lists (s.setSlot i (some (.opened y d))) := by
  have context : ∀ j, (s.setSlot i (some (.opened y d))).openContext j = if j = i then some (y, d) else s.openContext j :=
    fun j => s.openContext_setSlot i j _
  have before : ∀ j e, (s.setSlot i (some (.opened y d))).openContext j = some e →
      ∃ e', s.openContext j = some e' ∧ e'.1.session = e.1.session ∧ e'.1.cls = e.1.cls := by
    intro j e hj
    rw [context] at hj
    split at hj
    · next here =>
      cases hj
      exact ⟨_, here ▸ h, same.1.symm, same.2.symm⟩
    · exact ⟨e, hj, rfl, rfl⟩
  refine ⟨l.openNodup, l.sealNodup, fun j => ?_, fun j => ?_, fun j k e f he hf hs hc => ?_⟩
  · rw [context]
    split
    · next here => subst j; simp [l.opened, h]
    · exact l.opened j
  · rw [slot_put (s := s) (v := some (.opened y d)) rfl]
    by_cases here : j = i
    · subst j
      simpa [Slot.isOpen] using l.not_mem_sealList h
    · rw [if_neg here]
      exact l.sealed j
  · obtain ⟨e', he, es, ec⟩ := before j e he
    obtain ⟨f', hf, fs, fc⟩ := before k f hf
    exact l.apart j k e' f' he hf (by rw [es, fs, hs]) (by rw [ec, fc, hc])

/-- A context is opened in a FREE slot, for a session and class that have none. -/
theorem openSlot (l : Lists s) {i h : Nat} {x : Session} {c : TrafficClass} (free : s.slot i = none) (none : s.NoneOpen h c) :
    Lists (openSlot i h x c s) := by
  obtain ⟨y, d, slots, own⟩ : ∃ y d, (Machine.openSlot i h x c s).slots = s.slots.put i (some (.opened y d))
      ∧ y.session = h ∧ y.cls = c := ⟨_, _, rfl, rfl, rfl⟩
  have openList : (Machine.openSlot i h x c s).openList = s.openList ++ [i] := rfl
  have sealList : (Machine.openSlot i h x c s).sealList = s.sealList := rfl
  generalize Machine.openSlot i h x c s = t at slots openList sealList
  have closed : s.openContext i = .none := by rw [State.openContext_eq, free]; rfl
  have context : ∀ j, t.openContext j = if j = i then some (y, d) else s.openContext j := openContext_put slots
  refine ⟨?_, sealList ▸ l.sealNodup, fun j => ?_, fun j => ?_, fun j k e f he hf hs hc => ?_⟩
  · rw [openList]
    exact List.nodup_append.2 ⟨l.openNodup, List.nodup_singleton i, fun a ha b hb => by
      rw [List.mem_singleton.1 hb]; rintro rfl; exact l.not_mem_openList closed ha⟩
  · rw [openList, List.mem_append, l.opened, context]
    by_cases here : j = i <;> simp [here]
  · rw [sealList, l.sealed, slot_put slots]
    by_cases here : j = i
    · subst j; simp [free, Slot.isOpen]
    · rw [if_neg here]
  · rw [context] at he hf
    split at he <;> split at hf
    · next hj hk => rw [hj, hk]
    · cases he; exact absurd ⟨hs.symm.trans own.1, hc.symm.trans own.2⟩ (none k f hf)
    · cases hf; exact absurd ⟨hs.trans own.1, hc.trans own.2⟩ (none j e he)
    · exact l.apart j k e f he hf hs hc

/-- The head of the seal list is admitted, and its slot is FREE. -/
theorem admitted (l : Lists s) {i : Nat} {rest : List Nat} (head : s.sealList = i :: rest) (slots : t.slots = s.slots.put i none)
    (openList : t.openList = s.openList) (sealList : t.sealList = rest) : Lists t := by
  obtain ⟨v, hv, shut⟩ := (l.sealed i).1 (by rw [head]; exact List.mem_cons_self)
  have nodup := l.sealNodup
  rw [head, List.nodup_cons] at nodup
  have closed : s.openContext i = none := by
    rw [State.openContext_eq, hv]
    cases v with
    | opened => cases shut
    | sealed => rfl
  have context : ∀ j, t.openContext j = s.openContext j := fun j => by
    rw [openContext_put slots]
    split
    · next here => rw [here, closed]; rfl
    · rfl
  refine ⟨openList ▸ l.openNodup, sealList ▸ nodup.2, fun j => ?_, fun j => ?_, ?_⟩
  · rw [openList, context]; exact l.opened j
  · have was := l.sealed j
    rw [head, List.mem_cons] at was
    rw [sealList, slot_put slots]
    by_cases here : j = i
    · subst j; simpa using nodup.1
    · rw [if_neg here, ← was]
      simp [here]
  · simpa only [context] using l.apart

end Lists

/-! ### What an effect may do to the lists -/

/-- The lists stay lawful and the zone tracker as it was, and an OPEN context is of the current tariff zone or of the zone of one that
was OPEN before. -/
structure ListsStay (s t : State) : Prop where
  lists : Lists s → Lists t
  zone : t.zone = s.zone
  zoned : Lists s → ∀ i e, t.openContext i = some e → e.1.zone = s.zoneNumber ∨ ∃ j f, s.openContext j = some f ∧ f.1.zone = e.1.zone

theorem zoneNumber_congr {s t : State} (h : t.zone = s.zone) : t.zoneNumber = s.zoneNumber := by
  unfold State.zoneNumber State.currentZone State.segment State.segmentIndex
  rw [h]

namespace ListsStay

variable {s t u : State}

theorem of_same (slots : t.slots = s.slots) (openList : t.openList = s.openList) (sealList : t.sealList = s.sealList)
    (zone : t.zone = s.zone) : ListsStay s t :=
  ⟨fun l => l.congr slots openList sealList, zone, fun _ i e h => .inr ⟨i, e, by rwa [← openContext_congr (slot_congr slots i)], rfl⟩⟩

theorem refl (s : State) : ListsStay s s := of_same rfl rfl rfl rfl

theorem trans (m : ListsStay s t) (n : ListsStay t u) : ListsStay s u where
  lists := n.lists ∘ m.lists
  zone := n.zone.trans m.zone
  zoned l i e h := by
    rcases n.zoned (m.lists l) i e h with z | ⟨j, f, hf, z⟩
    · exact .inl (z.trans (zoneNumber_congr m.zone))
    · rw [← z]; exact m.zoned l j f hf

theorem contextsListed (m : ListsStay s t) (h : ContextsListed s) : ContextsListed t := by
  obtain ⟨l, zone⟩ := (contextsListed_iff s).1 h
  refine (contextsListed_iff t).2 ⟨m.lists l, fun i e he => ?_⟩
  rw [zoneNumber_congr m.zone]
  rcases m.zoned l i e he with z | ⟨j, f, hf, z⟩
  · exact z
  · rw [← z]; exact zone j f hf

/-- What an effect does to lists that are lawful is all there is to show, where the zone tracker is the same. -/
theorem of_lists (zone : t.zone = s.zone) (h : Lists s → ListsStay s t) : ListsStay s t :=
  ⟨fun l => (h l).lists l, zone, fun l => (h l).zoned l⟩

theorem offCharge (h : t.offCharge = s.offCharge) : ListsStay s t :=
  of_same (offCharge_slots h).1 (offCharge_slots h).2 (show t.offCharge.sealList = s.offCharge.sealList by rw [h])
    (show t.offCharge.zone = s.offCharge.zone by rw [h])

end ListsStay

/-! ### Contexts closed (R122) -/

/-- A context as it closes: rounded, its residue given up (R122 step 1). -/
def Context.closing (x : Context) : Context := { x.earn x.roundingUnit with residue := 0 }

/-- A context that has left slot `i` has been recorded where the queue has room, or else SEALED (R122 step 4). -/
inductive HandedOver (i : Nat) (x : Context) (s : State) : State → Prop
  | recorded (r : ChargeRecord) (account : r.account = x.account) (charge : r.charge = x.charge) (room : s.crq.length < 256) :
      HandedOver i x s { s with slots := s.slots.put i none, openList := s.openList.filter (decide <| · ≠ i), crq := s.crq ++ [r] }
  | sealed (r : ChargeRecord) (account : r.account = x.account) (charge : r.charge = x.charge) (why : CloseReason) (at' : Stamp)
      (room : 256 ≤ s.crq.length) :
      HandedOver i x s { s with slots := s.slots.put i (some (.sealed x why at' r)),
                                openList := s.openList.filter (decide <| · ≠ i), sealList := s.sealList ++ [i] }

/-- Closing an OPEN context applies its rounding unit to its account and hands it over. -/
theorem closeContext_handedOver {s : State} {i : Nat} {x : Context} {d : Nat} (h : s.openContext i = some (x, d))
    (why : CloseReason) :
    HandedOver i x.closing (applyCharge x.account x.roundingUnit s) (closeContext why i s) := by
  unfold closeContext
  rw [h]
  dsimp only
  generalize applyCharge x.account x.roundingUnit s = u
  unfold handOver
  split
  · next room => exact .recorded _ rfl rfl room
  · next full => exact .sealed _ rfl rfl why _ (Nat.not_lt.1 full)

theorem HandedOver.listsStay {i : Nat} {x y : Context} {d : Nat} {s t : State} (m : HandedOver i x s t)
    (h : s.openContext i = some (y, d)) : ListsStay s t := by
  have fewer {v : Option Slot} (shut : v.bind Slot.openPart = none) (slots : t.slots = s.slots.put i v) (j : Nat)
      (e : Context × Nat) (hj : t.openContext j = some e) : ∃ k f, s.openContext k = some f ∧ f.1.zone = e.1.zone := by
    rw [openContext_put slots, shut] at hj
    split at hj
    · cases hj
    · exact ⟨j, e, hj, rfl⟩
  cases m with
  | recorded r =>
    exact ⟨fun l => l.closed (v := none) h nofun rfl rfl (by simp), rfl, fun _ j e hj => .inr (fewer (v := none) rfl rfl j e hj)⟩
  | sealed r account charge why at' =>
    exact ⟨fun l => l.closed (v := some (.sealed x why at' r)) h (fun w hw => by cases hw; rfl) rfl rfl rfl, rfl,
      fun _ j e hj => .inr (fewer (v := some (.sealed x why at' r)) rfl rfl j e hj)⟩

theorem closeContext_of_none {s : State} {i : Nat} (h : s.openContext i = none) (why : CloseReason) : closeContext why i s = s :=
  (closeContext_closed why i s).unopened h

theorem closeContext_listsStay (why : CloseReason) (i : Nat) (s : State) : ListsStay s (closeContext why i s) := by
  cases h : s.openContext i with
  | none => rw [closeContext_of_none h]; exact .refl s
  | some e =>
    have off := offCharge_applyCharge e.1.account e.1.roundingUnit s
    exact (ListsStay.offCharge off).trans ((closeContext_handedOver h why).listsStay
      ((openContext_congr (slot_congr (offCharge_slots off).1 i)).trans h))

/-! ### Frames metered (R115 to R121) -/

theorem Context.rateFrame_zone (x : Context) (d : Direction) (n : Nat) : (x.rateFrame d n).1.zone = x.zone := by
  cases d <;> rfl

theorem rewrite_listsStay {s : State} {i : Nat} {x : Context} {d : Nat} (h : s.openContext i = some (x, d)) (direction : Direction)
    (n : Nat) : ListsStay s (s.setSlot i (some (.opened (x.rateFrame direction n).1 d))) := by
  refine ⟨fun l => l.rewrite h (x.rateFrame_same direction n), rfl, fun _ j e hj => .inr ?_⟩
  rw [State.openContext_setSlot] at hj
  split at hj
  · cases hj; exact ⟨i, _, h, (x.rateFrame_zone direction n).symm⟩
  · exact ⟨j, e, hj, rfl⟩

theorem rateInSlot_listsStay (i : Nat) (d : Direction) (n : Nat) (s : State) : ListsStay s (rateInSlot i d n s) := by
  unfold rateInSlot
  split
  · exact .refl s
  · next x deadline h =>
    have rated := (rewrite_listsStay h d n).trans (.offCharge (offCharge_applyCharge (x.rateFrame d n).1.account (x.rateFrame d n).2 _))
    dsimp only
    split
    · exact rated.trans (closeContext_listsStay ..)
    · exact rated

/-- A slot that is found FREE is FREE, and one of the 64. -/
theorem State.freeSlot_some {s : State} {i : Nat} (h : s.freeSlot = some i) : s.slot i = none ∧ i < 64 := by
  unfold State.freeSlot at h
  have free := List.find?_some h
  exact ⟨Option.isNone_iff_eq_none.1 free, List.mem_range.1 (List.mem_of_find?_eq_some h)⟩

theorem openSlot_listsStay {s : State} {i : Nat} (free : s.slot i = none) {h : Nat} (x : Session) {c : TrafficClass}
    (none : s.NoneOpen h c) : ListsStay s (openSlot i h x c s) := by
  refine ⟨fun l => l.openSlot free none, rfl, fun _ j e hj => ?_⟩
  have hj : (s.setSlot i _).openContext j = some e := hj
  rw [State.openContext_setSlot] at hj
  split at hj
  · cases hj; exact .inl rfl
  · exact .inr ⟨j, e, hj, rfl⟩

theorem openAndRate_listsStay {s : State} {h : Nat} (x : Session) {c : TrafficClass} (none : s.NoneOpen h c) (d : Direction)
    (n : Nat) : ListsStay s (openAndRate h x c d n s) := by
  unfold openAndRate
  split
  · next i found => exact (openSlot_listsStay (State.freeSlot_some found).1 x none).trans (rateInSlot_listsStay ..)
  · exact .offCharge (offCharge_unrecordedUse ..)

/-- Closing a context opens none. -/
theorem noneOpen_closeContext {s : State} {h : Nat} {c : TrafficClass} (none : s.NoneOpen h c) (why : CloseReason) (i : Nat) :
    (closeContext why i s).NoneOpen h c := by
  intro j e hj
  rw [(closeContext_closed why i s).openContext] at hj
  split at hj
  · cases hj
  · exact none j e hj

theorem MoneyFrame.zone {s t : State} (m : MoneyFrame s t) : t.zone = s.zone := by
  obtain ⟨_, _, _, _, _, _, _, rfl⟩ := m.same
  rfl

theorem meterFrame_listsStay (h : Nat) (c : TrafficClass) (d : Direction) (n : Nat) (s : State) :
    ListsStay s (meterFrame h c d n s) := by
  refine .of_lists (MoneyFrame.meterFrame h c d n s).zone fun l => ?_
  unfold meterFrame
  split
  · exact .refl s
  · next x _ =>
    split
    · exact rateInSlot_listsStay ..
    · next absent =>
      have none := l.noneOpen absent
      split
      · exact (closeContext_listsStay ..).trans (openAndRate_listsStay x (noneOpen_closeContext none _ _) d n)
      · exact openAndRate_listsStay x none d n

/-! ### The record queue's arbiter (R144) -/

theorem admitOne_listsStay (s : State) : ListsStay s (admitOne s) := by
  unfold admitOne
  split
  · split
    · next i rest head =>
      refine .of_lists (by split <;> rfl) fun l => ?_
      obtain ⟨v, hv, shut⟩ := (l.sealed i).1 (by rw [head]; exact List.mem_cons_self)
      cases v with
      | opened => cases shut
      | sealed x why at' record =>
        rw [hv]
        refine ⟨fun l => l.admitted head rfl rfl rfl, rfl, fun _ j e hj => .inr ⟨j, e, ?_, rfl⟩⟩
        have hj : (s.setSlot i none).openContext j = some e := hj
        rw [State.openContext_setSlot] at hj
        split at hj
        · cases hj
        · exact hj
    · split
      · exact .of_same rfl rfl rfl rfl
      · exact .refl s
  · exact .refl s

end Sys2Proof.Machine
end

section
/-! SUPPORT. The account unit's books: what the meter holds in the midst of an event, what balances between its moves, and what
applying a charge does to them (06, 07 sections 8.3 to 8.5). -/

namespace Sys2Proof.Machine

/-! ### What the books rest on -/

/-- The account a session's use is charged to. -/
def State.payer (s : State) (h : Nat) : Option Nat := (s.session h).map (·.account)

/-- The parameters, the tariff table and the zone tracker as the meter needs them (R114, R129, R130, R153). -/
structure Terms (s : State) : Prop where
  interval : 10 ≤ s.meter.interval ∧ s.meter.interval ≤ 3600
  byteLimit : 1 ≤ s.meter.byteLimit ∧ s.meter.byteLimit ≤ 1024
  recordMark : 1 ≤ s.meter.recordMark ∧ s.meter.recordMark ≤ 255
  tariff : ∀ t, s.tariff = some t → TariffLawful t
  placed : ∀ f, s.zone.tracker.fix? = some f → f.segment < s.zone.table.length
  serving : s.service = .serving → s.tariff.isSome = true ∧ s.segment.isSome = true

/-- A context whose charge and residue are the exact worth of its bytes, which are below the greatest byte limit but for one frame
(R118 to R120). -/
structure Context.Exact (x : Context) : Prop where
  worth : x.charge * 1048576 + x.residue = (x.bytesUp + x.bytesDown) * x.rate
  residue : x.residue < 1048576
  rate : x.rate ≤ 65535
  bytes : x.bytesUp + x.bytesDown ≤ 1073743871
  unclipped : x.clipped = false

/-- What a slot says of its context's worth: an OPEN one is exact, a SEALED one is as its record has it (R118, R122). -/
def Slot.Worth : Slot → Prop
  | .opened x _ => x.Exact
  | .sealed x _ _ record =>
    record.account = x.account ∧ record.charge = x.charge ∧ x.charge ≤ 67107968
      ∧ x.bytesUp + x.bytesDown ≤ 1073743871 ∧ x.clipped = false

/-- What holds of contexts, records and carries at every moment of an event: each is of an OPEN account, and each context has its
worth. -/
structure Holdings (s : State) : Prop where
  lists : Lists s
  slotsWf : s.slots.wf 64 = true
  accountsRising : s.accounts.keys.Pairwise (· < ·)
  bounded : s.crq.length ≤ 256
  terms : Terms s
  seated : ∀ h a, s.payer h = some a → s.service = .serving ∧ (s.account a).isOpen = true
  payers : ∀ i v, s.slot i = some v → s.payer v.context.session = some v.context.account
  worth : ∀ i v, s.slot i = some v → v.Worth
  pool : ∀ c, ∀ f ∈ s.pool.get c, f.length ≤ 2048 ∧ (s.payer f.session).isSome = true
  records : ∀ r ∈ s.crq, (s.account r.account).isOpen = true
  carries : ∀ a, 0 < (s.account a).carry.charge → (s.account a).isOpen = true

theorem Holdings.rising {s : State} (g : Holdings s) : s.slots.keys.Pairwise (· < ·) := ((Table.wf_iff _ _).1 g.slotsWf).1

/-- Besides, the books balance (R146). -/
structure Ledger (s : State) : Prop extends Holdings s where
  balance : BooksBalance s

/-- What every move of the meter leaves: besides, nothing waits for the record queue unless it is full (R144), and no OPEN context has
reached the greatest byte limit (R120). -/
structure Accounted (s : State) : Prop extends Ledger s where
  full : RecordsFillTheQueue s
  short : ∀ i e, s.openContext i = some e → e.1.bytesUp + e.1.bytesDown < 1073741824

theorem State.segment_isSome_of_placed {s : State} (fixed : s.zone.tracker.fix?.isSome = true)
    (placed : ∀ f, s.zone.tracker.fix? = some f → f.segment < s.zone.table.length) : s.segment.isSome = true := by
  obtain ⟨f, hf⟩ := Option.isSome_iff_exists.1 fixed
  simp [State.segment, State.segmentIndex, hf, placed f hf]

/-- Every lawful state is accounted for. -/
theorem accounted_of_lawful {s : State} (h : Lawful s) : Accounted s := by
  obtain ⟨⟨-, bounded⟩, -, tables, contexts, -, -, zone, -, funds, -, -, idle, -, -, -, meter, balance, -, full⟩ := h
  obtain ⟨interval, byteLimit, recordMark, tariff, serving, slots, pool, records, carries⟩ := meter
  obtain ⟨-, -, slotsWf, -, accounts, -⟩ := tables
  obtain ⟨-, -, -, -, fix, -⟩ := zone
  have payer : ∀ h x, s.session h = some x → s.payer h = some x.account := fun h x hx => by rw [State.payer, hx]; rfl
  refine ⟨⟨⟨((contextsListed_iff s).1 contexts).1, slotsWf, (Table.risingKeys_iff _).1 accounts, bounded,
    ⟨interval, byteLimit, recordMark, tariff, fun f hf => (fix f hf).1, serving⟩, fun h a ha => ?_, fun i v hv => ?_,
    fun i v hv => ?_, fun c f hf => ?_, records, carries⟩, balance⟩, full, fun i e he => ?_⟩
  · obtain ⟨x, hx, rfl⟩ := Option.map_eq_some_iff.1 ha
    refine ⟨?_, (funds h x hx).1⟩
    cases configuring : s.service with
    | serving => rfl
    | configuring =>
      rw [State.session, (idle configuring).1] at hx
      cases hx
  · obtain ⟨⟨x, hx, account⟩, -⟩ := slots i v hv
    rw [payer _ x hx, account]
  · obtain ⟨-, worth⟩ := slots i v hv
    cases v with
    | opened x d =>
      obtain ⟨worth, residue, rate, bytes, unclipped⟩ := worth
      exact ⟨worth, residue, rate, by omega, unclipped⟩
    | sealed => exact worth
  · obtain ⟨length, session⟩ := pool c f hf
    exact ⟨length, by rw [State.payer, Option.isSome_map]; exact session⟩
  · obtain ⟨-, worth⟩ := slots i _ (State.slot_of_openContext he)
    obtain ⟨-, -, -, bytes, -⟩ := worth
    omega

theorem Accounted.meterLawful {s : State} (g : Accounted s) : MeterLawful s := by
  refine ⟨g.terms.interval, g.terms.byteLimit, g.terms.recordMark, g.terms.tariff, g.terms.serving, fun i v hv => ⟨?_, ?_⟩,
    fun c f hf => ⟨(g.pool c f hf).1, ?_⟩, g.records, g.carries⟩
  · exact Option.map_eq_some_iff.1 (g.payers i v hv)
  · have worth := g.worth i v hv
    cases v with
    | opened x d =>
      have short := g.short i (x, d) (State.openContext_of_slot hv)
      exact ⟨worth.worth, worth.residue, worth.rate, short, worth.unclipped⟩
    | sealed => exact worth
  · have payer := (g.pool c f hf).2
    rwa [State.payer, Option.isSome_map] at payer

/-! ### The four places of a charge (R146) -/

/-- The charge of an account that stands in one of the four places. -/
def State.booked (s : State) (a : Nat) : Nat :=
  (s.account a).delivered + s.queuedCharge a + s.contextCharge a + (s.account a).carry.charge

theorem booksBalance_iff (s : State) :
    BooksBalance s ↔ ∀ a, (s.account a).isOpen = true → (s.account a).rated < 281474976710655 → (s.account a).rated = s.booked a :=
  Iff.rfl

/-- The part of a charge that an account bears. -/
def charging (a c : Nat) : Nat → Nat := fun b => if a = b then c else 0

def noCharge : Nat → Nat := fun _ => 0

theorem charging_zero (a : Nat) : charging a 0 = noCharge := funext fun b => by unfold charging; split <;> rfl

/-- The charge that a context holds of an account's, and that a record does. -/
def Context.chargeTo (x : Context) : Nat → Nat := charging x.account x.charge

def ChargeRecord.chargeTo (r : ChargeRecord) : Nat → Nat := charging r.account r.charge

theorem State.contextCharge_eq (s : State) (a : Nat) : s.contextCharge a = s.slots.total (·.context.chargeTo a) := rfl

/-- Writing a slot exchanges the charge of what it held for that of what it holds. -/
theorem contextCharge_put {s t : State} {i : Nat} {v : Option Slot} (rising : s.slots.keys.Pairwise (· < ·))
    (slots : t.slots = s.slots.put i v) (a : Nat) :
    t.contextCharge a + (s.slot i).elim 0 (·.context.chargeTo a) = s.contextCharge a + v.elim 0 (·.context.chargeTo a) := by
  rw [t.contextCharge_eq, s.contextCharge_eq, slots]
  exact Table.total_put _ rising i v

theorem queuedCharge_append {s t : State} {r : ChargeRecord} (crq : t.crq = s.crq ++ [r]) (a : Nat) :
    t.queuedCharge a = s.queuedCharge a + r.chargeTo a := by
  unfold State.queuedCharge State.recordsOf ChargeRecord.chargeTo charging
  rw [crq, List.filter_append, List.map_append, List.sum_append]
  by_cases h : r.account = a <;> simp [h]

theorem queuedCharge_cons {s t : State} {r : ChargeRecord} (crq : s.crq = r :: t.crq) (a : Nat) :
    s.queuedCharge a = r.chargeTo a + t.queuedCharge a := by
  unfold State.queuedCharge State.recordsOf ChargeRecord.chargeTo charging
  rw [crq, List.filter_cons]
  by_cases h : r.account = a <;> simp [h]

/-- An account that is not OPEN has nothing in the queue and nothing in contexts. -/
theorem Holdings.nothing_booked {s : State} (g : Holdings s) {a : Nat} (closed : (s.account a).isOpen = false) :
    s.queuedCharge a = 0 ∧ s.contextCharge a = 0 := by
  constructor
  · have none : s.recordsOf a = [] := List.filter_eq_nil_iff.2 fun r hr => by
      have isOpen := g.records r hr
      intro mine
      rw [of_decide_eq_true mine, closed] at isOpen
      cases isOpen
    rw [State.queuedCharge, none]
    rfl
  · refine List.sum_eq_zero fun n hn => ?_
    obtain ⟨⟨i, v⟩, hv, rfl⟩ := List.mem_map.1 hn
    refine if_neg fun mine => ?_
    have isOpen := (g.seated _ _ (g.payers i v (Table.get?_of_mem g.rising hv))).2
    rw [mine, closed] at isOpen
    cases isOpen

/-! ### Charges applied (R135) -/

/-- Nothing that the books speak of differs but the rated totals, which have each risen by a charge, or reached their ceiling; frames
of the pool may be gone. -/
structure Charged (charge : Nat → Nat) (s t : State) : Prop where
  slots : t.slots = s.slots
  openList : t.openList = s.openList
  sealList : t.sealList = s.sealList
  crq : t.crq = s.crq
  zone : t.zone = s.zone
  meter : t.meter = s.meter
  tariff : t.tariff = s.tariff
  service : t.service = s.service
  pool : ∀ c, t.pool.get c ⊆ s.pool.get c
  payer : ∀ h, t.payer h = s.payer h
  rising : s.accounts.keys.Pairwise (· < ·) → t.accounts.keys.Pairwise (· < ·)
  isOpen : ∀ a, (t.account a).isOpen = (s.account a).isOpen
  delivered : ∀ a, (t.account a).delivered = (s.account a).delivered
  carry : ∀ a, (t.account a).carry.charge = (s.account a).carry.charge
  rated : ∀ a, (t.account a).rated < 281474976710655 → (t.account a).rated = (s.account a).rated + charge a

theorem Terms.congr {s t : State} (terms : Terms s) (meter : t.meter = s.meter) (tariff : t.tariff = s.tariff)
    (zone : t.zone = s.zone) (service : t.service = s.service) : Terms t := by
  have segment : t.segment = s.segment := by rw [State.segment, State.segmentIndex, zone]; rfl
  exact ⟨meter ▸ terms.interval, meter ▸ terms.byteLimit, meter ▸ terms.recordMark, tariff ▸ terms.tariff, zone ▸ terms.placed,
    by rw [service, tariff, segment]; exact terms.serving⟩

theorem payer_of_sessions {s t : State} (h : t.sessions = s.sessions) (j : Nat) : t.payer j = s.payer j := by
  rw [State.payer, State.session, h]; rfl

theorem account_of_accounts {s t : State} (h : t.accounts = s.accounts) (a : Nat) : t.account a = s.account a := by
  rw [State.account, h]; rfl

theorem State.account_setAccount (s : State) (b a : Nat) (x : Account) :
    (s.setAccount a x).account b = if b = a then x else s.account b := by
  split
  · next h => rw [h, s.account_setAccount_self]
  · next h => exact s.account_setAccount_ne h x

theorem MoneyFrame.payer {s t : State} (m : MoneyFrame s t) (h : Nat) : t.payer h = s.payer h := by
  rcases m.session h with e | ⟨x, causes, hx, ht⟩
  · rw [State.payer, e]; rfl
  · rw [State.payer, State.payer, hx, ht]; rfl

/-- All that the books speak of, sessions and pool frames apart. -/
def State.bookView (s : State) : State :=
  { State.reset with zone := s.zone, slots := s.slots, openList := s.openList, sealList := s.sealList, meter := s.meter,
                     tariff := s.tariff, accounts := s.accounts, crq := s.crq, service := s.service }

namespace Charged

variable {f g : Nat → Nat} {s t u : State}

/-- Nothing that the books speak of differs, sessions still pay from the accounts they did, and pool frames may be gone. -/
theorem still (same : t.bookView = s.bookView) (payer : ∀ h, t.payer h = s.payer h) (pool : ∀ c, t.pool.get c ⊆ s.pool.get c) :
    Charged noCharge s t := by
  have field {α : Type} (f : State → α) : f t.bookView = f s.bookView := congrArg f same
  have accounts : t.accounts = s.accounts := field State.accounts
  have account := account_of_accounts accounts
  exact ⟨field State.slots, field State.openList, field State.sealList, field State.crq,
    field State.zone, field State.meter, field State.tariff, field State.service, pool, payer,
    fun h => by rwa [accounts], fun a => by rw [account], fun a => by rw [account], fun a => by rw [account],
    fun a _ => by rw [account]; rfl⟩

theorem of_same (same : t.bookView = s.bookView) (sessions : t.sessions = s.sessions) (pool : t.pool = s.pool) :
    Charged noCharge s t := still same (payer_of_sessions sessions) fun c => by rw [pool]; exact List.Subset.refl _

theorem refl (s : State) : Charged noCharge s s := of_same rfl rfl rfl

theorem trans (m : Charged f s t) (n : Charged g t u) : Charged (fun a => f a + g a) s u where
  slots := n.slots.trans m.slots
  openList := n.openList.trans m.openList
  sealList := n.sealList.trans m.sealList
  crq := n.crq.trans m.crq
  zone := n.zone.trans m.zone
  meter := n.meter.trans m.meter
  tariff := n.tariff.trans m.tariff
  service := n.service.trans m.service
  pool c := List.Subset.trans (n.pool c) (m.pool c)
  payer h := (n.payer h).trans (m.payer h)
  rising := n.rising ∘ m.rising
  isOpen a := (n.isOpen a).trans (m.isOpen a)
  delivered a := (n.delivered a).trans (m.delivered a)
  carry a := (n.carry a).trans (m.carry a)
  rated a h := by
    have hn := n.rated a h
    have hm := m.rated a (by omega)
    omega

/-- A further effect applies no charge. -/
theorem andStill (m : Charged f s t) (n : Charged noCharge t u) : Charged f s u := m.trans n

theorem fold {β : Type} {f : State → β → State} (h : ∀ s x, Charged noCharge s (f s x)) (l : List β) (s : State) :
    Charged noCharge s (l.foldl f s) := foldl_rel (R := Charged noCharge) refl andStill h l s

/-- An account's record is written, its rated total having risen by a charge. -/
theorem setAccount (s : State) {a c : Nat} {x : Account} (isOpen : x.isOpen = (s.account a).isOpen)
    (delivered : x.delivered = (s.account a).delivered) (carry : x.carry.charge = (s.account a).carry.charge)
    (rated : x.rated < 281474976710655 → x.rated = (s.account a).rated + c) : Charged (charging a c) s (s.setAccount a x) where
  slots := rfl
  openList := rfl
  sealList := rfl
  crq := rfl
  zone := rfl
  meter := rfl
  tariff := rfl
  service := rfl
  pool _ := List.Subset.refl _
  payer _ := rfl
  rising := s.accounts.put_rising a _
  isOpen b := by
    rw [s.account_setAccount]
    split
    · next h => rw [h]; exact isOpen
    · rfl
  delivered b := by
    rw [s.account_setAccount]
    split
    · next h => rw [h]; exact delivered
    · rfl
  carry b := by
    rw [s.account_setAccount]
    split
    · next h => rw [h]; exact carry
    · rfl
  rated b := by
    rw [s.account_setAccount, charging]
    by_cases h : b = a
    · rw [if_pos h, if_pos h.symm, h]; exact rated
    · rw [if_neg h, if_neg (Ne.symm h)]; exact fun _ => rfl

/-- An account's record is written with the same books. -/
theorem settleAccount (s : State) {a : Nat} {x : Account} (isOpen : x.isOpen = (s.account a).isOpen)
    (delivered : x.delivered = (s.account a).delivered) (carry : x.carry.charge = (s.account a).carry.charge)
    (rated : x.rated = (s.account a).rated) : Charged noCharge s (s.setAccount a x) :=
  charging_zero a ▸ setAccount s isOpen delivered carry fun _ => rated

theorem raise (p : Port) (k : NoticeKind) (n : Nat) (s : State) : Charged noCharge s (s.raise p k n) := of_same rfl rfl rfl

/-- An effect of the session unit's causes. -/
theorem of_causes (m : MoneyFrame s t) (off : t.offCharge = s.offCharge) (accounts : t.accounts = s.accounts) :
    Charged noCharge s t := by
  have view : ({ t with accounts := s.accounts } : State).bookView = s.bookView :=
    congrArg (fun u : State => { u with accounts := s.accounts }.bookView) off
  refine still ?_ m.payer fun c => ?_
  · rw [← accounts] at view; exact view
  · rw [show t.pool = s.pool from show t.offCharge.pool = s.offCharge.pool by rw [off]]; exact List.Subset.refl _

end Charged

theorem setCause_accounts (h : Nat) (c : Cause) (v : Bool) (s : State) : (setCause h c v s).accounts = s.accounts := by
  unfold setCause addCause removeCause State.modifySession State.raiseRestricted
  split
  · split
    · rfl
    · dsimp only
      repeat' split
      all_goals rfl
  · split <;> rfl

theorem Charged.setCause (h : Nat) (c : Cause) (v : Bool) (s : State) : Charged noCharge s (setCause h c v s) :=
  .of_causes (.setCause h c v s) (offCharge_setCause h c v s) (setCause_accounts h c v s)

theorem Charged.handFunds (a : Nat) (v : Bool) (s : State) : Charged noCharge s (handFunds a v s) :=
  .fold (fun s h => by
    repeat' split
    exacts [.setCause h .funds v s, .refl s, .refl s]) _ s

theorem Charged.evaluateRoaming (h : Nat) (s : State) : Charged noCharge s (evaluateRoaming h s) := by
  unfold Machine.evaluateRoaming
  split
  · exact .setCause ..
  · exact .refl s

theorem Charged.evaluateAllRoaming (s : State) : Charged noCharge s (evaluateAllRoaming s) :=
  .fold (fun s h => .evaluateRoaming h s) _ s

theorem Charged.judgeFlags (notices : Bool) (a : Nat) (s : State) : Charged noCharge s (judgeFlags notices a s) := by
  unfold Machine.judgeFlags
  dsimp only
  have judged : Charged noCharge s
      (s.setAccount a { s.account a with funds := (s.account a).fundsLaw, low := (s.account a).lowLaw }) :=
    .settleAccount s rfl rfl rfl rfl
  have handed : Charged noCharge s (if (s.account a).fundsLaw = (s.account a).funds then
      s.setAccount a { s.account a with funds := (s.account a).fundsLaw, low := (s.account a).lowLaw }
      else Machine.handFunds a (s.account a).fundsLaw
        (s.setAccount a { s.account a with funds := (s.account a).fundsLaw, low := (s.account a).lowLaw })) := by
    split
    · exact judged
    · exact judged.andStill (.handFunds ..)
  generalize (if (s.account a).fundsLaw = (s.account a).funds then _ else _ : State) = u at handed ⊢
  split
  · split
    · exact (handed.andStill (.raise ..)).andStill (.raise ..)
    · exact handed.andStill (.raise ..)
  · split
    · exact handed.andStill (.raise ..)
    · exact handed

/-- The kind's part of a charge leaves the books alone. -/
theorem Account.takeCharge_books (x : Account) (c : Nat) :
    (x.takeCharge c).isOpen = x.isOpen ∧ (x.takeCharge c).delivered = x.delivered ∧ (x.takeCharge c).carry = x.carry
      ∧ (x.takeCharge c).rated = x.rated := by
  unfold Account.takeCharge
  split
  · split <;> exact ⟨rfl, rfl, rfl, rfl⟩
  all_goals exact ⟨rfl, rfl, rfl, rfl⟩

theorem Charged.applyCharge (a c : Nat) (s : State) : Charged (charging a c) s (applyCharge a c s) := by
  unfold Machine.applyCharge
  split
  · next h => rw [h, charging_zero]; exact .refl s
  · obtain ⟨isOpen, delivered, carry, rated⟩ := ((s.account a).rateUp c).takeCharge_books c
    refine (Charged.setAccount s isOpen delivered (by rw [carry]; rfl) fun below => ?_).andStill (.judgeFlags ..)
    rw [rated] at below ⊢
    simp only [Account.rateUp, saturated, Config.ceiling48] at below ⊢
    omega

theorem Charged.listsStay {f : Nat → Nat} {s t : State} (m : Charged f s t) : ListsStay s t :=
  .of_same m.slots m.openList m.sealList m.zone

theorem Charged.booked {f : Nat → Nat} {s t : State} (m : Charged f s t) (a : Nat) : t.booked a = s.booked a := by
  unfold State.booked State.queuedCharge State.recordsOf State.contextCharge
  rw [m.delivered, m.carry, m.crq, m.slots]

theorem Holdings.charged {f : Nat → Nat} {s t : State} (g : Holdings s) (m : Charged f s t) : Holdings t := by
  have slot := slot_congr m.slots
  refine ⟨m.listsStay.lists g.lists, m.slots ▸ g.slotsWf, m.rising g.accountsRising, m.crq ▸ g.bounded,
    g.terms.congr m.meter m.tariff m.zone m.service, fun h a ha => ?_, fun i v hv => ?_, fun i v hv => ?_, fun c x hx => ?_,
    fun r hr => ?_, fun a pos => ?_⟩
  · rw [m.service, m.isOpen]; exact g.seated h a (by rwa [← m.payer])
  · rw [m.payer]; exact g.payers i v (by rwa [← slot])
  · exact g.worth i v (by rwa [← slot])
  · rw [m.payer]; exact g.pool c x (m.pool c hx)
  · rw [m.isOpen]; exact g.records r (by rwa [← m.crq])
  · rw [m.isOpen]; exact g.carries a (by rwa [← m.carry])

theorem Charged.full {f : Nat → Nat} {s t : State} (m : Charged f s t) (full : RecordsFillTheQueue s) : RecordsFillTheQueue t := by
  simpa only [RecordsFillTheQueue, m.sealList, m.carry, m.crq] using full

/-- What applies no charge keeps the books. -/
theorem Accounted.still {s t : State} (g : Accounted s) (m : Charged noCharge s t) : Accounted t := by
  refine ⟨⟨g.toHoldings.charged m, (booksBalance_iff t).2 fun a isOpen below => ?_⟩, m.full g.full, fun i e he => ?_⟩
  · rw [m.isOpen] at isOpen
    have rated : (t.account a).rated = (s.account a).rated := m.rated a below
    rw [rated] at below ⊢
    rw [m.booked]
    exact g.balance a isOpen below
  · exact g.short i e (by rwa [← openContext_congr (slot_congr m.slots i)])

end Sys2Proof.Machine
end

section
/-! SUPPORT. The meter's moves keep the books: contexts closed, frames rated, records taken and admitted (06, 07 section 8.5). -/

namespace Sys2Proof.Machine

theorem charging_add (a c k b : Nat) : charging a (c + k) b = charging a c b + charging a k b := by
  unfold charging
  split <;> rfl

/-- The books stay balanced where a charge that an account is rated for stands in one of the four places besides. -/
theorem BooksBalance.charged {s t : State} (balance : BooksBalance s) (charge : Nat → Nat)
    (isOpen : ∀ a, (t.account a).isOpen = (s.account a).isOpen)
    (rated : ∀ a, (t.account a).rated < 281474976710655 → (t.account a).rated = (s.account a).rated + charge a)
    (booked : ∀ a, t.booked a = s.booked a + charge a) : BooksBalance t := by
  refine (booksBalance_iff t).2 fun a is below => ?_
  have up := rated a below
  have was : (s.account a).rated = s.booked a := balance a (isOpen a ▸ is) (by omega)
  rw [up, booked, was]

/-! ### Contexts closed (R122) -/

/-- A context closes with its exact worth rounded to the nearest unit, which no ceiling clips. -/
theorem Context.Exact.closing {x : Context} (e : x.Exact) :
    x.closing.charge = x.charge + x.roundingUnit ∧ x.closing.charge ≤ 67107968 ∧ x.closing.clipped = false := by
  obtain ⟨worth, residue, rate, bytes, unclipped⟩ := e
  have most : (x.bytesUp + x.bytesDown) * x.rate ≤ 1073743871 * 65535 := Nat.mul_le_mul bytes rate
  have bound : x.charge + x.roundingUnit ≤ 67107968 := by unfold Context.roundingUnit; split <;> omega
  have ceiling : x.charge + x.roundingUnit ≤ Config.ceiling32 := by unfold Config.ceiling32; omega
  have charge : x.closing.charge = x.charge + x.roundingUnit := Nat.min_eq_right ceiling
  refine ⟨charge, by rw [charge]; exact bound, ?_⟩
  show (x.clipped || decide (Config.ceiling32 < x.charge + x.roundingUnit)) = false
  rw [unclipped, decide_eq_false (Nat.not_lt.2 ceiling)]
  rfl

/-- What a context held of a charge is held by its record, or by the SEALED context. -/
theorem HandedOver.booked {i : Nat} {x y : Context} {d : Nat} {s t : State} (m : HandedOver i x s t)
    (rising : s.slots.keys.Pairwise (· < ·)) (h : s.openContext i = some (y, d)) (a : Nat) :
    t.booked a + y.chargeTo a = s.booked a + x.chargeTo a := by
  have slot := State.slot_of_openContext h
  unfold State.booked
  cases m with
  | recorded r account charge =>
    have queued := queuedCharge_append (s := s) (t := { s with
      slots := s.slots.put i none, openList := s.openList.filter (decide <| · ≠ i), crq := s.crq ++ [r] }) rfl a
    have held := contextCharge_put (s := s) (i := i) (v := none) (t := { s with
      slots := s.slots.put i none, openList := s.openList.filter (decide <| · ≠ i), crq := s.crq ++ [r] }) rising rfl a
    have same : r.chargeTo a = x.chargeTo a := by rw [ChargeRecord.chargeTo, account, charge]; rfl
    rw [slot] at held
    simp only [Option.elim, Slot.context, State.account] at held ⊢
    omega
  | sealed r account charge why at' =>
    have held := contextCharge_put (s := s) (i := i) (v := some (.sealed x why at' r)) (t := { s with
      slots := s.slots.put i (some (.sealed x why at' r)), openList := s.openList.filter (decide <| · ≠ i),
      sealList := s.sealList ++ [i] }) rising rfl a
    rw [slot] at held
    simp only [Option.elim, Slot.context, State.account, State.queuedCharge, State.recordsOf] at held ⊢
    omega

theorem HandedOver.accounts {i : Nat} {x : Context} {s t : State} (m : HandedOver i x s t) : t.accounts = s.accounts := by
  cases m <;> rfl

theorem Holdings.handedOver {i : Nat} {y : Context} {d : Nat} {s t : State} (g : Holdings s) (h : s.openContext i = some (y, d))
    (m : HandedOver i y.closing s t) : Holdings t := by
  have slot := State.slot_of_openContext h
  have exact' : y.Exact := g.worth i _ slot
  obtain ⟨-, bound, unclipped⟩ := exact'.closing
  have payer : s.payer y.session = some y.account := g.payers i _ slot
  have lists := (m.listsStay h).lists g.lists
  cases m with
  | recorded r account charge room =>
    have slots : ∀ j v, (if j = i then none else s.slot j) = some v → s.slot j = some v := fun j v => by
      split
      · exact nofun
      · exact id
    have slots : ∀ j v, (s.slots.put i none).get? j = some v → s.slot j = some v := fun j v hv =>
      slots j v (by rwa [Table.get?_put] at hv)
    refine ⟨lists, Table.wf_put i none g.slotsWf nofun, g.accountsRising, ?_, g.terms.congr rfl rfl rfl rfl, g.seated,
      fun j v hv => g.payers j v (slots j v hv), fun j v hv => g.worth j v (slots j v hv), g.pool, fun q hq => ?_, g.carries⟩
    · rw [List.length_append]; exact room
    · rcases List.mem_append.1 hq with hq | hq
      · exact g.records q hq
      · rw [List.mem_singleton.1 hq, account]
        exact (g.seated _ _ payer).2
  | sealed r account charge why at' =>
    have slots : ∀ j v, (if j = i then some (.sealed y.closing why at' r) else s.slot j) = some v →
        v = .sealed y.closing why at' r ∨ s.slot j = some v := fun j v => by
      split
      · exact fun e => .inl (Option.some.inj e).symm
      · exact .inr
    have slots : ∀ j v, (s.slots.put i (some (.sealed y.closing why at' r))).get? j = some v →
        v = .sealed y.closing why at' r ∨ s.slot j = some v := fun j v hv => slots j v (by rwa [Table.get?_put] at hv)
    refine ⟨lists, Table.wf_put i _ g.slotsWf fun _ => Table.lt_of_get? g.slotsWf slot, g.accountsRising, g.bounded,
      g.terms.congr rfl rfl rfl rfl, g.seated, fun j v hv => ?_, fun j v hv => ?_, g.pool, g.records, g.carries⟩
    · rcases slots j v hv with rfl | hv
      · exact payer
      · exact g.payers j v hv
    · rcases slots j v hv with rfl | hv
      · exact ⟨account, charge, bound, exact'.bytes, unclipped⟩
      · exact g.worth j v hv

theorem Ledger.closeContext {s : State} (g : Ledger s) (why : CloseReason) (i : Nat) : Ledger (closeContext why i s) := by
  cases h : s.openContext i with
  | none => rw [closeContext_of_none h]; exact g
  | some e =>
    obtain ⟨x, d⟩ := e
    have charged := Charged.applyCharge x.account x.roundingUnit s
    have handed := closeContext_handedOver h why
    have h' := (openContext_congr (slot_congr charged.slots i)).trans h
    have holdings := g.toHoldings.charged charged
    have account := account_of_accounts handed.accounts
    refine ⟨holdings.handedOver h' handed, g.balance.charged (charging x.account x.roundingUnit)
      (fun a => by rw [account, charged.isOpen]) (fun a => by rw [account]; exact charged.rated a) fun a => ?_⟩
    have booked := handed.booked holdings.rising h' a
    have closing : x.closing.chargeTo a = x.chargeTo a + charging x.account x.roundingUnit a := by
      rw [Context.chargeTo, (Context.Exact.closing (g.worth i _ (State.slot_of_openContext h))).1]
      exact charging_add ..
    rw [charged.booked] at booked
    omega

theorem closeContext_full {s : State} (g : Holdings s) (full : RecordsFillTheQueue s) (why : CloseReason) (i : Nat) :
    RecordsFillTheQueue (closeContext why i s) := by
  cases h : s.openContext i with
  | none => rw [closeContext_of_none h]; exact full
  | some e =>
    have charged := Charged.applyCharge e.1.account e.1.roundingUnit s
    have bounded := (g.charged charged).bounded
    have full := charged.full full
    have handed := closeContext_handedOver h why
    generalize applyCharge e.1.account e.1.roundingUnit s = u at bounded full handed
    generalize Machine.closeContext why i s = t at handed
    have account := account_of_accounts handed.accounts
    rintro waits
    simp only [account] at waits
    cases handed with
    | recorded r _ _ room => exact absurd (full waits) (Nat.ne_of_lt room)
    | sealed r _ _ _ _ room => exact Nat.le_antisymm bounded room

theorem Accounted.closeContext {s : State} (g : Accounted s) (why : CloseReason) (i : Nat) : Accounted (closeContext why i s) := by
  refine ⟨g.toLedger.closeContext why i, closeContext_full g.toHoldings g.full why i, fun j e he => ?_⟩
  rw [(closeContext_closed why i s).openContext] at he
  split at he
  · cases he
  · exact g.short j e he

/-- The lists stay lawful, and the books kept. -/
structure Stays (s t : State) : Prop extends ListsStay s t where
  books : Accounted s → Accounted t

namespace Stays

variable {s t u : State}

theorem still (m : Charged noCharge s t) : Stays s t := ⟨m.listsStay, fun g => g.still m⟩

theorem refl (s : State) : Stays s s := still (.refl s)

theorem trans (m : Stays s t) (n : Stays t u) : Stays s u := ⟨m.toListsStay.trans n.toListsStay, n.books ∘ m.books⟩

theorem fold {β : Type} {f : State → β → State} (h : ∀ s x, Stays s (f s x)) (l : List β) (s : State) :
    Stays s (l.foldl f s) := foldl_rel (R := Stays) refl trans h l s

theorem closeContext (why : CloseReason) (i : Nat) (s : State) : Stays s (closeContext why i s) :=
  ⟨closeContext_listsStay why i s, fun g => g.closeContext why i⟩

theorem closeAll (which : List (Nat × CloseReason)) (s : State) : Stays s (closeAll which s) :=
  fold (β := Nat × CloseReason) (f := fun s e => Machine.closeContext e.2 e.1 s) (fun s e => closeContext e.2 e.1 s) which s

theorem closeSessionContexts (h : Nat) (why : CloseReason) (s : State) : Stays s (closeSessionContexts h why s) :=
  fold (fun s c => by
    split
    · exact closeContext ..
    · exact refl s) allClasses s

end Stays

/-! ### Frames rated (R115 to R120) -/

/-- Carrying a residue keeps the exact worth (R118). -/
theorem worth_carried {charge residue bytes rate unit : Nat} (worth : charge * unit + residue = bytes * rate) (n : Nat) :
    (charge + (n * rate + residue) / unit) * unit + (n * rate + residue) % unit = (bytes + n) * rate := by
  rw [Nat.add_mul, Nat.add_mul, ← worth, Nat.add_assoc, Nat.div_add_mod']
  omega

/-- A frame is rated in a context at its exact worth, which no ceiling clips (R118). -/
theorem Context.Exact.rateFrame {x : Context} (e : x.Exact) (d : Direction) {n : Nat}
    (bytes : x.bytesUp + x.bytesDown + n ≤ 1073743871) :
    (x.rateFrame d n).1.Exact ∧ (x.rateFrame d n).1.charge = x.charge + (x.rateFrame d n).2 := by
  obtain ⟨worth, residue, rate, -, unclipped⟩ := e
  have most : (x.bytesUp + x.bytesDown + n) * x.rate ≤ 1073743871 * 65535 := Nat.mul_le_mul bytes rate
  rw [Nat.add_mul] at most
  have split := Nat.div_add_mod (n * x.rate + x.residue) 1048576
  have left : (n * x.rate + x.residue) % 1048576 < 1048576 := Nat.mod_lt _ (by decide)
  have ceiling : x.charge + (n * x.rate + x.residue) / 1048576 ≤ Config.ceiling32 := by unfold Config.ceiling32; omega
  have increment : (x.rateFrame d n).2 = (n * x.rate + x.residue) / 1048576 := rfl
  have charge : (x.rateFrame d n).1.charge = x.charge + (n * x.rate + x.residue) / 1048576 := by
    cases d <;> exact Nat.min_eq_right ceiling
  have sum : (x.rateFrame d n).1.bytesUp + (x.rateFrame d n).1.bytesDown = x.bytesUp + x.bytesDown + n := by
    cases d
    · exact Nat.add_right_comm ..
    · exact (Nat.add_assoc ..).symm
  have residue' : (x.rateFrame d n).1.residue = (n * x.rate + x.residue) % 1048576 := by cases d <;> rfl
  have rate' : (x.rateFrame d n).1.rate = x.rate := by cases d <;> rfl
  have unclipped' : (x.rateFrame d n).1.clipped = false := by
    have same : (x.rateFrame d n).1.clipped
        = (x.clipped || decide (Config.ceiling32 < x.charge + (n * x.rate + x.residue) / 1048576)) := by cases d <;> rfl
    rw [same, unclipped, decide_eq_false (Nat.not_lt.2 ceiling)]
    rfl
  generalize x.rateFrame d n = r at increment charge sum residue' rate' unclipped' ⊢
  have worth' : r.1.charge * 1048576 + r.1.residue = (r.1.bytesUp + r.1.bytesDown) * r.1.rate := by
    rw [charge, residue', sum, rate']
    exact worth_carried worth n
  rw [← residue'] at left
  rw [← rate'] at rate
  rw [← sum] at bytes
  rw [← increment] at charge
  exact ⟨⟨worth', left, rate, bytes, unclipped'⟩, charge⟩

theorem Context.rateFrame_account (x : Context) (d : Direction) (n : Nat) : (x.rateFrame d n).1.account = x.account := by
  cases d <;> rfl

/-- A slot is written, of a session's account and with its worth. -/
theorem Holdings.setSlot {s t : State} (g : Holdings s) {i : Nat} {v : Slot} (lists : Lists t)
    (same : t = { s with slots := s.slots.put i (some v), openList := t.openList }) (below : i < 64)
    (payer : s.payer v.context.session = some v.context.account) (worth : v.Worth) : Holdings t := by
  have slots : t.slots = s.slots.put i (some v) := congrArg State.slots same
  have slot : ∀ j w, t.slot j = some w → w = v ∨ s.slot j = some w := fun j w hw => by
    rw [slot_put slots] at hw
    split at hw
    · exact .inl (Option.some.inj hw).symm
    · exact .inr hw
  have wf : t.slots.wf 64 = true := by rw [slots]; exact Table.wf_put i _ g.slotsWf fun _ => below
  clear slots
  rw [same] at lists wf slot ⊢
  refine ⟨lists, wf, g.accountsRising, g.bounded, g.terms.congr rfl rfl rfl rfl, g.seated, fun j w hw => ?_, fun j w hw => ?_, g.pool,
    g.records, g.carries⟩
  · rcases slot j w hw with rfl | hw
    · exact payer
    · exact g.payers j w hw
  · rcases slot j w hw with rfl | hw
    · exact worth
    · exact g.worth j w hw

/-- A frame rated, before the byte limit is looked at (R118). -/
theorem Accounted.rated {s : State} (g : Accounted s) {i : Nat} {x : Context} {deadline : Nat}
    (h : s.openContext i = some (x, deadline)) (d : Direction) {n : Nat} (length : n ≤ 2048) :
    Ledger (applyCharge (x.rateFrame d n).1.account (x.rateFrame d n).2
        (s.setSlot i (some (.opened (x.rateFrame d n).1 deadline))))
      ∧ RecordsFillTheQueue (applyCharge (x.rateFrame d n).1.account (x.rateFrame d n).2
        (s.setSlot i (some (.opened (x.rateFrame d n).1 deadline)))) := by
  have slot := State.slot_of_openContext h
  have short := g.short i _ h
  obtain ⟨rated, charge⟩ := Context.Exact.rateFrame (g.worth i _ slot) d (n := n) (by dsimp only at short; omega)
  have account := x.rateFrame_account d n
  have session := (x.rateFrame_same d n).1
  have lists := g.lists.rewrite h (x.rateFrame_same d n)
  generalize x.rateFrame d n = r at rated charge account session lists ⊢
  have charged := Charged.applyCharge r.1.account r.2 (s.setSlot i (some (.opened r.1 deadline)))
  have holdings : Holdings (s.setSlot i (some (.opened r.1 deadline))) :=
    g.toHoldings.setSlot (v := .opened r.1 deadline) lists rfl (Table.lt_of_get? g.slotsWf slot)
      (by show s.payer r.1.session = some r.1.account; rw [session, account]; exact g.payers i _ slot) rated
  refine ⟨⟨holdings.charged charged, g.balance.charged (charging r.1.account r.2) charged.isOpen charged.rated fun a => ?_⟩,
    charged.full g.full⟩
  have held := contextCharge_put (i := i) (v := some (.opened r.1 deadline)) (t := s.setSlot i (some (.opened r.1 deadline)))
    g.rising rfl a
  rw [slot] at held
  have mine : r.1.chargeTo a = x.chargeTo a + charging r.1.account r.2 a := by
    rw [Context.chargeTo, Context.chargeTo, charge, charging_add, account]
  rw [charged.booked]
  unfold State.booked
  simp only [Option.elim, Slot.context, State.account, State.queuedCharge, State.recordsOf, State.setSlot] at held ⊢
  omega

theorem Accounted.rateInSlot {s : State} (g : Accounted s) (i : Nat) (d : Direction) {n : Nat} (length : n ≤ 2048) :
    Accounted (rateInSlot i d n s) := by
  unfold Machine.rateInSlot
  split
  · exact g
  · next x deadline h =>
    obtain ⟨ledger, full⟩ := g.rated h d length
    have off := offCharge_slots (offCharge_applyCharge (x.rateFrame d n).1.account (x.rateFrame d n).2
      (s.setSlot i (some (.opened (x.rateFrame d n).1 deadline))))
    have byteLimit := ledger.terms.byteLimit
    dsimp only
    generalize applyCharge (x.rateFrame d n).1.account (x.rateFrame d n).2 _ = u at ledger full off byteLimit ⊢
    have context : ∀ j, u.openContext j = if j = i then some ((x.rateFrame d n).1, deadline) else s.openContext j :=
      fun j => openContext_put (s := s) (i := i) (v := some (.opened (x.rateFrame d n).1 deadline)) off.1 j
    split
    · refine ⟨ledger.closeContext .byteLimit i, closeContext_full ledger.toHoldings full .byteLimit i, fun j e he => ?_⟩
      rw [(closeContext_closed .byteLimit i u).openContext] at he
      split at he
      · cases he
      · next ne =>
        rw [context, if_neg ne] at he
        exact g.short j e he
    · next below =>
      refine ⟨ledger, full, fun j e he => ?_⟩
      rw [context] at he
      split at he
      · cases he
        dsimp only
        omega
      · exact g.short j e he

/-! ### An account's record and the queue rewritten together -/

/-- The state with an account's record and the record queue rewritten. -/
def State.rebook (s : State) (a : Nat) (x : Account) (crq : List ChargeRecord) : State := { s.setAccount a x with crq := crq }

theorem State.account_rebook (s : State) (a : Nat) (x : Account) (crq : List ChargeRecord) (b : Nat) :
    (s.rebook a x crq).account b = if b = a then x else s.account b := s.account_setAccount b a x

/-- An account is rewritten as an OPEN one, or nothing names it any more. -/
theorem Holdings.rebook {s : State} (g : Holdings s) {a : Nat} {x : Account} {crq : List ChargeRecord}
    (isOpen : x.isOpen = true ∨ (∀ h, s.payer h ≠ some a) ∧ ∀ r ∈ crq, r.account ≠ a)
    (carry : 0 < x.carry.charge → x.isOpen = true) (bounded : crq.length ≤ 256) (records : ∀ r ∈ crq, (s.account r.account).isOpen = true) : Holdings (s.rebook a x crq) := by
  have named : ∀ b, (b = a → x.isOpen = true) → (s.account b).isOpen = true → ((s.rebook a x crq).account b).isOpen = true :=
    fun b mine was => by
      rw [s.account_rebook]
      split
      · next h => exact mine h
      · exact was
  refine ⟨g.lists.congr rfl rfl rfl, g.slotsWf, s.accounts.put_rising a _ g.accountsRising, bounded, g.terms.congr rfl rfl rfl rfl,
    fun h b hb => ⟨(g.seated h b hb).1, named b (fun mine => ?_) (g.seated h b hb).2⟩, g.payers, g.worth, g.pool,
    fun r hr => named _ (fun mine => ?_) (records r hr), fun b pos => ?_⟩
  · rcases isOpen with isOpen | ⟨unpaid, -⟩
    · exact isOpen
    · exact absurd (mine ▸ hb) (unpaid h)
  · rcases isOpen with isOpen | ⟨-, unrecorded⟩
    · exact isOpen
    · exact absurd mine (unrecorded r hr)
  · rw [s.account_rebook] at pos ⊢
    split at pos
    · next h => rw [if_pos h]; exact carry pos
    · next h => rw [if_neg h]; exact g.carries b pos

/-- The books balance where they balance of the other accounts, and of the one rewritten. -/
theorem booksBalance_rebook {s : State} {a : Nat} {x : Account} {crq : List ChargeRecord}
    (balance : ∀ b, b ≠ a → (s.account b).isOpen = true → (s.account b).rated < 281474976710655 →
      (s.account b).rated = s.booked b)
    (others : ∀ b, b ≠ a → (s.rebook a x crq).queuedCharge b = s.queuedCharge b)
    (own : x.isOpen = true → x.rated < 281474976710655 →
      x.rated = x.delivered + (s.rebook a x crq).queuedCharge a + s.contextCharge a + x.carry.charge) :
    BooksBalance (s.rebook a x crq) := by
  intro b isOpen below
  rw [s.account_rebook] at isOpen below ⊢
  by_cases h : b = a
  · subst h
    rw [if_pos rfl] at isOpen below ⊢
    exact own isOpen below
  · rw [if_neg h] at isOpen below ⊢
    rw [others b h]
    exact balance b h isOpen below

/-! ### Contexts opened, and frames rated directly (R116, R121) -/

/-- In SERVING a rate is one of the tariff table, or 0 (R115, R130). -/
theorem Terms.frameRate_le {s : State} (terms : Terms s) (serving : s.service = .serving) (x : Session) (c : TrafficClass) :
    s.frameRate x c ≤ 65535 := by
  unfold State.frameRate
  split
  · exact Nat.zero_le _
  · obtain ⟨loaded, current⟩ := terms.serving serving
    obtain ⟨t, ht⟩ := Option.isSome_iff_exists.1 loaded
    obtain ⟨z, hz⟩ := Option.isSome_iff_exists.1 current
    obtain ⟨length, rates⟩ := terms.tariff t ht
    have inside : z.zone.val * 8 + x.group.val < t.length := by omega
    have entry : s.currentEntry x.group = t[z.zone.val * 8 + x.group.val] := by
      simp [State.currentEntry, State.tariffEntry, State.currentZone, hz, ht, List.getElem?_eq_getElem inside]
    rw [entry]
    exact rates _ (List.getElem_mem inside) c

theorem Accounted.openSlot {s : State} (g : Accounted s) {i h : Nat} {x : Session} {c : TrafficClass} (free : s.slot i = none)
    (below : i < 64) (payer : s.payer h = some x.account) (none : s.NoneOpen h c) : Accounted (openSlot i h x c s) := by
  have rate := g.terms.frameRate_le (g.seated h _ payer).1 x c
  have lists := g.lists.openSlot (x := x) free none
  obtain ⟨y, d, same, session, account, bytesUp, bytesDown, charge, residue, unclipped, rated⟩ :
      ∃ y d, Machine.openSlot i h x c s = { s with slots := s.slots.put i (some (.opened y d)), openList := s.openList ++ [i] }
        ∧ y.session = h ∧ y.account = x.account ∧ y.bytesUp = 0 ∧ y.bytesDown = 0 ∧ y.charge = 0 ∧ y.residue = 0
        ∧ y.clipped = false ∧ y.rate = s.frameRate x c := ⟨_, _, rfl, rfl, rfl, rfl, rfl, rfl, rfl, rfl, rfl⟩
  rw [same] at lists ⊢
  have holdings := g.toHoldings.setSlot (v := .opened y d) lists rfl below
    (by show s.payer y.session = some y.account; rw [session, account]; exact payer)
    ⟨by simp only [charge, residue, bytesUp, bytesDown, Nat.zero_mul, Nat.zero_add], by omega, by omega, by omega, unclipped⟩
  refine ⟨⟨holdings, g.balance.charged noCharge (fun _ => rfl) (fun _ _ => rfl) fun a => ?_⟩, g.full, fun j e he => ?_⟩
  · have held := contextCharge_put (i := i) (v := some (.opened y d))
      (t := { s with slots := s.slots.put i (some (.opened y d)), openList := s.openList ++ [i] }) g.rising rfl a
    have mine : y.chargeTo a = 0 := by rw [Context.chargeTo, charge, charging_zero]; rfl
    rw [free] at held
    simp only [Option.elim, Slot.context, mine] at held
    simp only [State.booked, State.account, State.queuedCharge, State.recordsOf, noCharge]
    omega
  · rw [openContext_put (s := s) (i := i) (v := some (.opened y d)) rfl] at he
    split at he
    · cases he
      dsimp only
      omega
    · exact g.short j e he

/-- With every slot taken, and one of them not OPEN, the record queue is full. -/
theorem Accounted.full_of_taken {s : State} (g : Accounted s) (taken : s.freeSlot = none) {i : Nat} (below : i < 64)
    (closed : s.openContext i = none) : s.crq.length = 256 := by
  have some' : ¬(s.slot i).isNone = true := List.find?_eq_none.1 taken i (List.mem_range.2 below)
  obtain ⟨v, hv⟩ := Option.ne_none_iff_exists'.1 fun e => some' (Option.isNone_iff_eq_none.2 e)
  refine g.full (.inl (List.ne_nil_of_mem (a := i) ((g.lists.sealed i).2 ⟨v, hv, ?_⟩)))
  cases v with
  | opened => rw [State.openContext_of_slot hv] at closed; cases closed
  | sealed => rfl

/-- A frame rated directly: its charge is carried, the record queue being full (R121, R136). -/
theorem Accounted.unrecordedUse {s : State} (g : Accounted s) {a : Nat} (isOpen : (s.account a).isOpen = true)
    (full : s.crq.length = 256) (d : Direction) (n c : Nat) : Accounted (unrecordedUse a d n c s) := by
  have charged := Charged.applyCharge a c s
  unfold Machine.unrecordedUse
  refine Accounted.still ?_ (.raise .pp .unrecorded a _)
  generalize applyCharge a c s = u at charged ⊢
  have holdings := g.toHoldings.charged charged
  have carried : Ledger (u.rebook a ((u.account a).carryUse d n c u.stamp) u.crq) := by
    have isOpen' := (charged.isOpen a).trans isOpen
    refine ⟨holdings.rebook (.inl isOpen') (fun _ => isOpen') holdings.bounded holdings.records,
      booksBalance_rebook (fun b ne is below => ?_) (fun _ _ => rfl) fun _ below => ?_⟩
    · have rated := charged.rated b below
      rw [charging, if_neg (Ne.symm ne), Nat.add_zero] at rated
      rw [rated] at below ⊢
      rw [charged.booked]
      exact g.balance b ((charged.isOpen b).symm.trans is) below
    · have ceiling : ((u.account a).carryUse d n c u.stamp).rated
          = if 4294967295 < (u.account a).carry.charge + c then 281474976710655 else (u.account a).rated := rfl
      have carry : ((u.account a).carryUse d n c u.stamp).carry.charge = min 4294967295 ((u.account a).carry.charge + c) := rfl
      have delivered : ((u.account a).carryUse d n c u.stamp).delivered = (u.account a).delivered := rfl
      have queued : (u.rebook a ((u.account a).carryUse d n c u.stamp) u.crq).queuedCharge a = u.queuedCharge a := rfl
      have was := charged.booked a
      rw [ceiling] at below ⊢
      rw [carry, delivered, queued]
      split at below
      · omega
      · next fits =>
        have rated := charged.rated a below
        rw [charging, if_pos rfl] at rated
        have balance : (s.account a).rated = s.booked a := g.balance a isOpen (by omega)
        unfold State.booked at was balance
        rw [if_neg fits]
        omega
  exact ⟨carried, fun _ => charged.crq ▸ full, fun i e he =>
    g.short i e (by rwa [← openContext_congr (slot_congr charged.slots i)])⟩

theorem Accounted.openAndRate {s : State} (g : Accounted s) {h : Nat} {x : Session} {c : TrafficClass}
    (payer : s.payer h = some x.account) (none : s.NoneOpen h c) (d : Direction) {n : Nat} (length : n ≤ 2048)
    (direct : s.freeSlot = .none → s.crq.length = 256) : Accounted (openAndRate h x c d n s) := by
  unfold Machine.openAndRate
  split
  · next i found =>
    obtain ⟨free, below⟩ := State.freeSlot_some found
    exact (g.openSlot free below payer none).rateInSlot i d length
  · next taken => exact g.unrecordedUse (g.seated h _ payer).2 (direct taken) d n _

theorem Accounted.meterFrame {s : State} (g : Accounted s) (h : Nat) (c : TrafficClass) (d : Direction) {n : Nat} (length : n ≤ 2048) :
    Accounted (meterFrame h c d n s) := by
  unfold Machine.meterFrame
  split
  · exact g
  · next x session =>
    have payer : s.payer h = some x.account := by rw [State.payer, session]; rfl
    split
    · exact g.rateInSlot _ d length
    · next absent =>
      have none := g.lists.noneOpen absent
      split
      · next oldest rest _ openList =>
        have shut := closeContext_closed .evict oldest s
        have evicted := g.closeContext .evict oldest
        have listed := (g.lists.opened oldest).1 (by rw [openList]; exact List.mem_cons_self)
        obtain ⟨e, he⟩ := Option.isSome_iff_exists.1 listed
        have below := Table.lt_of_get? g.slotsWf (State.slot_of_openContext he)
        exact evicted.openAndRate (((MoneyFrame.closeContext .evict oldest s).payer h).trans payer)
          (noneOpen_closeContext none _ _) d length fun taken => evicted.full_of_taken taken below shut.closed
      · next room =>
        refine g.openAndRate payer none d length fun taken => g.full_of_taken taken (i := 0) (by decide) ?_
        have nothing : s.openList = [] := by
          cases openList : s.openList with
          | nil => rfl
          | cons oldest rest => exact (room oldest rest taken openList).elim
        rw [← Option.not_isSome_iff_eq_none, ← g.lists.opened, nothing]
        exact List.not_mem_nil

end Sys2Proof.Machine
end

section
/-! SUPPORT. The record queue and the end of closing keep the books (04 section 5.7, 07 section 8.5). -/

namespace Sys2Proof.Machine

/-! ### The arbiter of the record queue (R144) -/

/-- An account that waits for the record queue with a carry. -/
theorem State.nextCarry_some {s : State} (rising : s.accounts.keys.Pairwise (· < ·)) {a : Nat} (next : s.nextCarry = some a) :
    0 < (s.account a).carry.charge := by
  obtain ⟨⟨b, x⟩, found, rfl⟩ := Option.map_eq_some_iff.1 next
  have account : s.account b = x := by rw [State.account, Table.get?_of_mem rising (List.mem_of_find?_eq_some found)]; rfl
  have waits := List.find?_some found
  rw [account]
  exact of_decide_eq_true waits

theorem State.nextCarry_none {s : State} (none : s.nextCarry = none) (a : Nat) : (s.account a).carry.charge = 0 := by
  have found := List.find?_eq_none.1 (Option.map_eq_none_iff.1 none)
  unfold State.account
  cases h : s.accounts.get? a with
  | none => rfl
  | some x => simpa using found (a, x) (Table.mem_of_get? h)

/-- What one admission does: nothing where the queue is full or nothing waits, else the oldest SEALED context is recorded, or the lowest
waiting carry (R144). -/
inductive Admitted (s : State) : State → Prop
  | full (full : 256 ≤ s.crq.length) : Admitted s s
  | context (i : Nat) (rest : List Nat) (x : Context) (why : CloseReason) (at' : Stamp) (record : ChargeRecord)
      (room : s.crq.length < 256) (head : s.sealList = i :: rest) (slot : s.slot i = some (.sealed x why at' record)) :
      Admitted s { s.setSlot i none with crq := s.crq ++ [record], sealList := rest }
  | carry (a : Nat) (room : s.crq.length < 256) (none : s.sealList = []) (waits : 0 < (s.account a).carry.charge) :
      Admitted s (s.rebook a { s.account a with carry := .clear } (s.crq ++ [unrecordedRecord a (s.account a).carry]))
  | nothing (none : s.sealList = []) (carries : ∀ a, (s.account a).carry.charge = 0) : Admitted s s

theorem admitOne_admitted {s : State} (g : Holdings s) : Admitted s (admitOne s) := by
  unfold admitOne
  split
  · next room =>
    split
    · next i rest head =>
      obtain ⟨v, hv, shut⟩ := (g.lists.sealed i).1 (by rw [head]; exact List.mem_cons_self)
      cases v with
      | opened => cases shut
      | sealed x why at' record =>
        rw [hv]
        exact .context i rest x why at' record room head hv
    · next none =>
      split
      · next a next => exact .carry a room none (State.nextCarry_some g.accountsRising next)
      · next nothing => exact .nothing none (State.nextCarry_none nothing)
  · next full => exact .full (Nat.not_lt.1 full)

theorem Ledger.admitOne {s : State} (g : Ledger s) : Ledger (admitOne s) := by
  have lists := (admitOne_listsStay s).lists g.lists
  have admitted := admitOne_admitted g.toHoldings
  generalize Machine.admitOne s = t at lists admitted
  cases admitted with
  | full => exact g
  | nothing => exact g
  | context i rest x why at' record room head slot =>
    obtain ⟨account, charge, -⟩ := g.worth i _ slot
    have slots : ∀ j v, (s.slots.put i none).get? j = some v → s.slot j = some v := fun j v hv => by
      rw [Table.get?_put] at hv
      split at hv
      · cases hv
      · exact hv
    refine ⟨⟨lists, Table.wf_put i none g.slotsWf nofun, g.accountsRising, ?_, g.terms.congr rfl rfl rfl rfl, g.seated,
      fun j v hv => g.payers j v (slots j v hv), fun j v hv => g.worth j v (slots j v hv), g.pool, fun q hq => ?_, g.carries⟩,
      g.balance.charged noCharge (fun _ => rfl) (fun _ _ => rfl) fun a => ?_⟩
    · rw [List.length_append]; exact room
    · rcases List.mem_append.1 hq with hq | hq
      · exact g.records q hq
      · rw [List.mem_singleton.1 hq, account]
        exact (g.seated _ _ (g.payers i _ slot)).2
    · have queued := queuedCharge_append (s := s) (t := { s.setSlot i none with crq := s.crq ++ [record], sealList := rest }) rfl a
      have held := contextCharge_put (i := i) (v := none)
        (t := { s.setSlot i none with crq := s.crq ++ [record], sealList := rest }) g.rising rfl a
      have same : record.chargeTo a = x.chargeTo a := by rw [ChargeRecord.chargeTo, account, charge]; rfl
      rw [slot] at held
      unfold State.booked
      simp only [Option.elim, Slot.context, State.account, State.setSlot, noCharge] at held queued ⊢
      omega
  | carry a room none waits =>
    have isOpen := g.carries a waits
    refine ⟨g.toHoldings.rebook (.inl isOpen) (fun _ => isOpen) ?_ fun r hr => ?_,
      booksBalance_rebook (fun b _ => g.balance b) (fun b ne => ?_) fun is below => ?_⟩
    · rw [List.length_append]; exact room
    · rcases List.mem_append.1 hr with hr | hr
      · exact g.records r hr
      · rw [List.mem_singleton.1 hr]; exact isOpen
    · rw [queuedCharge_append (s := s) rfl]
      exact congrArg (s.queuedCharge b + ·) (if_neg (Ne.symm ne))
    · rw [queuedCharge_append (s := s) rfl]
      have balance := g.balance a is below
      have mine : (unrecordedRecord a (s.account a).carry).chargeTo a = (s.account a).carry.charge := if_pos rfl
      have clear : Carry.clear.charge = 0 := rfl
      simp only [mine, clear]
      omega

/-- An admission opens no context. -/
theorem Admitted.openContext {s t : State} (m : Admitted s t) {j : Nat} {e : Context × Nat} (h : t.openContext j = some e) :
    s.openContext j = some e := by
  cases m with
  | full => exact h
  | nothing => exact h
  | carry => exact h
  | context i rest x why at' record =>
    have h : (s.setSlot i none).openContext j = some e := h
    rw [State.openContext_setSlot] at h
    split at h
    · cases h
    · exact h

/-- Where nothing waits but for a full queue, it stays so; and elsewhere an admission admits a record, or has nothing to do. -/
theorem Admitted.full_or {s t : State} (m : Admitted s t) (bounded : s.crq.length ≤ 256) :
    RecordsFillTheQueue t ∨ ¬RecordsFillTheQueue s ∧ t.crq.length = s.crq.length + 1 := by
  cases m with
  | full full => exact .inl fun _ => Nat.le_antisymm bounded full
  | nothing none carries =>
    refine .inl fun waits => ?_
    rcases waits with waits | ⟨a, waits⟩
    · exact absurd none waits
    · rw [carries] at waits; cases waits
  | context i rest x why at' record room head =>
    exact .inr ⟨fun full => Nat.ne_of_lt room (full (.inl (by rw [head]; exact List.cons_ne_nil i rest))), List.length_append⟩
  | carry a room none waits => exact .inr ⟨fun full => Nat.ne_of_lt room (full (.inr ⟨a, waits⟩)), List.length_append⟩

/-- The arbiter fills the room there is (R144). -/
structure Refilled (s t : State) : Prop where
  ledger : Ledger t
  opened : ∀ j e, t.openContext j = some e → s.openContext j = some e
  full : RecordsFillTheQueue t

theorem admitRecords_refilled : ∀ (n : Nat) {s : State}, Ledger s → RecordsFillTheQueue s ∨ 256 ≤ n + s.crq.length →
    Refilled s (admitRecords n s)
  | 0, s, g, enough => by
    refine ⟨g, fun _ _ h => h, ?_⟩
    rcases enough with full | enough
    · exact full
    · exact fun _ => Nat.le_antisymm g.bounded (by rwa [Nat.zero_add] at enough)
  | n + 1, s, g, enough => by
    have admitted := admitOne_admitted g.toHoldings
    obtain ⟨ledger, opened, full⟩ := admitRecords_refilled n g.admitOne <| by
      rcases admitted.full_or g.bounded with full | ⟨waits, more⟩
      · exact .inl full
      · rcases enough with full | enough
        · exact absurd full waits
        · exact .inr (by omega)
    exact ⟨ledger, fun j e h => admitted.openContext (opened j e h), full⟩

/-! ### Records taken (R142) -/

/-- Records are taken off the queue, and their charges counted as delivered. -/
theorem deliverAll_ledger : ∀ (taken : List ChargeRecord) {rest : List ChargeRecord} {s : State},
    Ledger { s with crq := taken ++ rest } → Ledger (deliverAll taken { s with crq := rest })
  | [], _, _, g => g
  | r :: taken, rest, s, g => by
    refine deliverAll_ledger taken (s := s.modifyAccount r.account (·.deliver r.charge)) ?_
    have delivered : Ledger (({ s with crq := r :: taken ++ rest } : State).rebook r.account
        ((s.account r.account).deliver r.charge) (taken ++ rest)) := by
      refine ⟨g.toHoldings.rebook (.inl (g.records r List.mem_cons_self)) (g.carries r.account) (Nat.le_of_succ_le g.bounded)
        (fun q hq => g.records q (List.mem_cons_of_mem r hq)),
        booksBalance_rebook (fun b _ => g.balance b) (fun b ne => ?_) fun is below => ?_⟩
      · rw [queuedCharge_cons (s := { s with crq := r :: taken ++ rest }) (r := r) (t := { s with crq := taken ++ rest }) rfl b]
        have other : r.chargeTo b = 0 := if_neg (Ne.symm ne)
        rw [other, Nat.zero_add]
        rfl
      · have balance := g.balance r.account is below
        rw [queuedCharge_cons (s := { s with crq := r :: taken ++ rest }) (r := r)
          (t := ({ s with crq := r :: taken ++ rest } : State).rebook r.account
            ((s.account r.account).deliver r.charge) (taken ++ rest)) rfl] at balance
        have mine : r.chargeTo r.account = r.charge := if_pos rfl
        have account : State.account { s with crq := r :: taken ++ rest } r.account = s.account r.account := rfl
        have sum : ((s.account r.account).deliver r.charge).delivered
            = min 281474976710655 ((s.account r.account).delivered + r.charge) := rfl
        have rated : ((s.account r.account).deliver r.charge).rated = (s.account r.account).rated := rfl
        have carry : ((s.account r.account).deliver r.charge).carry = (s.account r.account).carry := rfl
        rw [account, mine] at balance
        rw [rated] at below ⊢
        rw [sum, carry]
        omega
    exact delivered

theorem deliverAll_same (taken : List ChargeRecord) (s : State) : ∃ accounts, deliverAll taken s = { s with accounts := accounts } :=
  foldl_rel (R := fun s t : State => ∃ accounts, t = { s with accounts := accounts }) (fun s => ⟨s.accounts, rfl⟩)
    (by rintro s _ _ ⟨_, rfl⟩ ⟨accounts, rfl⟩; exact ⟨accounts, rfl⟩)
    (f := fun (s : State) (r : ChargeRecord) => s.modifyAccount r.account (·.deliver r.charge)) (fun _ _ => ⟨_, rfl⟩) taken s

theorem admitRecords_listsStay : ∀ (n : Nat) (s : State), ListsStay s (admitRecords n s)
  | 0, s => .refl s
  | n + 1, s => (admitOne_listsStay s).trans (admitRecords_listsStay n _)

theorem takeRecords_stays (n : Nat) (s : State) : Stays s (takeRecords n s) := by
  have ledger (g : Accounted s) : Ledger (deliverAll (s.crq.take n) { s with crq := s.crq.drop n }) :=
    deliverAll_ledger _ (by rw [List.take_append_drop]; exact g.toLedger)
  obtain ⟨accounts, delivered⟩ := deliverAll_same (s.crq.take n) { s with crq := s.crq.drop n }
  unfold takeRecords
  rw [delivered] at ledger ⊢
  dsimp only
  have taken : ListsStay s { s with accounts := accounts, crq := s.crq.drop n } := .of_same rfl rfl rfl rfl
  refine ⟨taken.trans (admitRecords_listsStay ..), fun g => ?_⟩
  obtain ⟨ledger, opened, full⟩ := admitRecords_refilled (Config.crqCapacity - (s.crq.drop n).length + s.sealList.length) (ledger g)
    (.inr (by dsimp only; have capacity : Config.crqCapacity = 256 := rfl; omega))
  exact ⟨ledger, full, fun j e h => g.short j e (opened j e h)⟩

/-! ### Sessions freed at the end of closing (R77) -/

/-- No slot and no pool frame names a session. -/
def State.Unnamed (s : State) (h : Nat) : Prop :=
  (∀ i v, s.slot i = some v → v.context.session ≠ h) ∧ ∀ c, ∀ f ∈ s.pool.get c, f.session ≠ h

theorem State.payer_setSession (s : State) (h : Nat) (x : Option Session) (j : Nat) :
    (s.setSession h x).payer j = if j = h then x.map (·.account) else s.payer j := by
  unfold State.payer State.session State.setSession
  rw [Table.get?_put]
  split <;> rfl

/-- A session that nothing names becomes FREE, or is attached to an OPEN account in SERVING. -/
theorem Accounted.setSession {s : State} (g : Accounted s) {h : Nat} {x : Option Session}
    (seated : ∀ y, x = some y → s.service = .serving ∧ (s.account y.account).isOpen = true) (unnamed : s.Unnamed h) :
    Accounted (s.setSession h x) := by
  obtain ⟨slots, pool⟩ := unnamed
  refine ⟨⟨⟨g.lists.congr rfl rfl rfl, g.slotsWf, g.accountsRising, g.bounded, g.terms.congr rfl rfl rfl rfl, fun j a ha => ?_,
    fun i v hv => ?_, g.worth, fun c f hf => ⟨(g.pool c f hf).1, ?_⟩, g.records, g.carries⟩, g.balance⟩, g.full, g.short⟩
  · rw [State.payer_setSession] at ha
    split at ha
    · obtain ⟨y, hy, rfl⟩ := Option.map_eq_some_iff.1 ha
      exact seated y hy
    · exact g.seated j a ha
  · rw [State.payer_setSession, if_neg (slots i v hv)]
    exact g.payers i v hv
  · rw [State.payer_setSession, if_neg (pool c f hf)]
    exact (g.pool c f hf).2

theorem State.unnamed_of_counts {s : State} (rising : s.slots.keys.Pairwise (· < ·)) {h : Nat} (frames : s.queuedFrames h = 0)
    (contexts : s.openContexts h + s.sealedContexts h = 0) : s.Unnamed h := by
  have opened := (State.openContexts_eq_zero rising h).1 (Nat.add_eq_zero_iff.1 contexts).1
  have shut := mt (State.sealedContexts_pos rising h).2 (Nat.not_lt.2 (Nat.le_of_eq (Nat.add_eq_zero_iff.1 contexts).2))
  have none := mt (s.queuedFrames_pos_iff h).2 (Nat.not_lt.2 (Nat.le_of_eq frames))
  refine ⟨fun i v hv mine => ?_, fun c f hf mine => none (.inr ⟨c, f, hf, mine⟩)⟩
  cases v with
  | opened x d => exact opened i _ (State.openContext_of_slot hv) mine
  | sealed => exact shut ⟨i, _, hv, mine, rfl⟩

theorem closeSessionContexts_queues (h : Nat) (why : CloseReason) (s : State) :
    (closeSessionContexts h why s).queuedFrames h = s.queuedFrames h :=
  (MoneyFrame.closeSessionContexts h why s).closingsRan.queuedFrames h

theorem endClosing_stays (h : Nat) (s : State) : Stays s (endClosing h s) := by
  unfold endClosing
  split
  · exact .refl s
  · split
    · exact .refl s
    · exact .refl s
    · next why _ =>
      split
      · next frames =>
        have closed := Stays.closeSessionContexts h why.reason s
        have frames := (closeSessionContexts_queues h why.reason s).trans frames
        dsimp only
        generalize closeSessionContexts h why.reason s = t at closed frames ⊢
        split
        · next contexts =>
          refine closed.trans ⟨.of_same rfl rfl rfl rfl, fun g => g.setSession nofun ?_⟩
          exact State.unnamed_of_counts g.rising frames contexts
        · exact closed
      · exact .refl s

theorem endClosings_stays (handles : List Nat) (s : State) : Stays s (endClosings handles s) :=
  .fold (fun s h => endClosing_stays h s) handles s

end Sys2Proof.Machine
end

section
/-! SUPPORT. How an event ends, what the ports do, and what the other blocks' moves leave of the books (04, 05, 08). -/

namespace Sys2Proof.Machine

/-- The state with the parameters, the tariff table, the zone tracker and the service written. -/
def State.onTerms (s : State) (meter : MeterParameters) (tariff : Option (List TariffEntry)) (zone : Zone) (service : Service) : State :=
  { s with meter := meter, tariff := tariff, zone := zone, service := service }

/-- Parameters, the tariff table, the zone tracker and the service are written, as the meter needs them. -/
theorem Accounted.onTerms {s : State} (g : Accounted s) {meter : MeterParameters} {tariff : Option (List TariffEntry)} {zone : Zone}
    {service : Service} (terms : Terms (s.onTerms meter tariff zone service)) (serving : s.service = .serving → service = .serving) :
    Accounted (s.onTerms meter tariff zone service) :=
  ⟨⟨⟨g.lists.congr rfl rfl rfl, g.slotsWf, g.accountsRising, g.bounded, terms,
    fun h a ha => ⟨serving (g.seated h a ha).1, (g.seated h a ha).2⟩, g.payers, g.worth, g.pool, g.records, g.carries⟩, g.balance⟩,
    g.full, g.short⟩

/-! ### The end of an event -/

/-- Nothing that the books speak of differs. -/
theorem Stays.same {s t : State} (view : t.bookView = s.bookView) (sessions : t.sessions = s.sessions) (pool : t.pool = s.pool) :
    Stays s t := .still (.of_same view sessions pool)

/-- A move of links and routes, and of the frames on links. -/
theorem Stays.offPaths {s t : State} (off : t.offPaths = s.offPaths) : Stays s t :=
  have field {α : Type} (f : State → α) : f t.offPaths = f s.offPaths := congrArg f off
  .same (field State.bookView) (field State.sessions) (field State.pool)

theorem gather_stays (o : Occurrence) (s : State) : Stays s (gather o s) := .same rfl rfl rfl

theorem modifyPort_stays (p : Port) (f : PortState → PortState) (s : State) : Stays s (s.modifyPort p f) := .same rfl rfl rfl

theorem gatherAll_stays (s : State) : Stays s (gatherAll s) :=
  (Stays.same (s := s) (t := { s with raised := [] }) rfl rfl rfl).trans (.fold (fun s o => gather_stays o s) s.raised _)

theorem followCondition_stays (before : State) (p : Port) (k : NoticeKind) (s : State) : Stays s (followCondition before p k s) := by
  unfold followCondition
  split
  · exact gather_stays _ s
  · split
    · exact .same rfl rfl rfl
    · exact .refl s

theorem followRouteDark_stays (before : State) (p : Port) (s : State) : Stays s (followRouteDark before p s) := by
  unfold followRouteDark
  split
  · exact .fold (fun s r => gather_stays _ s) _ s
  · split
    · exact .same rfl rfl rfl
    · exact .refl s

theorem followConditions_stays (before s : State) : Stays s (followConditions before s) :=
  (((((followCondition_stays before .rp .coverageOff s).trans (followRouteDark_stays before .rp _)).trans
    (followRouteDark_stays before .lp _)).trans (followCondition_stays before .lp .positionStale _)).trans
    (followCondition_stays before .pp .recordBacklog _)).trans (followCondition_stays before .pp .recordsWaiting _)

/-- An event's end: closings end, occurrences are gathered, conditions followed. -/
theorem settleEvent_stays (before s : State) : Stays s (settleEvent before s) :=
  ((endClosings_stays _ s).trans (gatherAll_stays _)).trans (followConditions_stays before _)

theorem ArbiterRan.stays {s t : State} (ran : ArbiterRan s t) : Stays s t :=
  have field {α : Type} (f : State → α) : f { t with ports := s.ports } = f s := congrArg f ran.same
  .same (field State.bookView) (field State.sessions) (field State.pool)

theorem respond_stays (p : Port) (m : Message) (code : ResponseCode) (body : List Byte) (s : State) :
    Stays s (respond p m code body s) := .same rfl rfl rfl

/-- A response appended, and the arbiter run behind it (R149, R166). -/
theorem respondRan_stays (p : Port) (m : Message) (code : ResponseCode) (body : List Byte) (s : State) :
    Stays s (runArbiter p (respond p m code body s)) := (respond_stays p m code body s).trans (runArbiter_ran p _).stays

theorem resetPort_stays (p : Port) (s : State) : Stays s (resetPort p s) := by
  refine ((modifyPort_stays p _ s).trans (.fold (fun s k => ?_) (conditionKinds p) _)).trans
    (.fold (fun s q => gather_stays ⟨q, .peerRestart, p.number⟩ s) _ _)
  split
  · exact gather_stays _ s
  · exact .refl s

/-! ### Sessions (04) -/

/-- A session's record is written, paying from the same account. -/
theorem setSession_stays {s : State} {h : Nat} {x y : Session} (hx : s.session h = some x) (account : y.account = x.account) :
    Stays s (s.setSession h (some y)) :=
  .still (.still rfl (fun j => by
    rw [State.payer_setSession]
    split
    · next here => rw [here, State.payer, hx, Option.map_some, Option.map_some, account]
    · rfl) fun _ => List.Subset.refl _)

theorem setTag_stays (s : State) (t : Nat) (x : Option (Nat × TrafficClass)) : Stays s (s.setTag t x) := .same rfl rfl rfl

theorem mapTags_stays (h : Nat) (bearers : List Bearer) (s : State) : Stays s (mapTags h bearers s) :=
  .fold (f := fun (s : State) (b : Bearer) => s.setTag b.tag (some (h, b.cls))) (fun s b => setTag_stays s b.tag _) bearers s

theorem freeTags_stays (bearers : List Bearer) (s : State) : Stays s (freeTags bearers s) :=
  .fold (f := fun (s : State) (b : Bearer) => s.setTag b.tag none) (fun s b => setTag_stays s b.tag _) bearers s

theorem freeTags_sessions (bearers : List Bearer) (s : State) : (freeTags bearers s).sessions = s.sessions :=
  foldl_rel (R := fun s t : State => t.sessions = s.sessions) (f := fun (s : State) (b : Bearer) => s.setTag b.tag none)
    (fun _ => rfl) (fun h k => k.trans h) (fun _ _ => rfl) bearers s

theorem setPool_stays {s : State} {pool : PerClass (List Frame)} (fewer : ∀ c, pool.get c ⊆ s.pool.get c) :
    Stays s { s with pool := pool } := .still (.still rfl (fun _ => rfl) fewer)

theorem discardPool_stays (h : Nat) (c : Counter) (s : State) : Stays s (discardPool h c s) := by
  unfold discardPool
  dsimp only
  split
  · exact .refl s
  · refine (setPool_stays (fun b => ?_)).trans (.offPaths (offPaths_count c _ _))
    cases b <;> exact List.filter_subset_self _

theorem enterClosing_stays (h : Nat) (why : SessionClose) (s : State) : Stays s (enterClosing h why s) := by
  unfold enterClosing
  split
  · exact .refl s
  · next x hx =>
    refine ((freeTags_stays x.bearers s).trans (setSession_stays (x := x) ?_ (by rfl))).trans (discardPool_stays h .poolGone _)
    rw [State.session, freeTags_sessions]
    exact hx

theorem park_stays (h : Nat) (s : State) : Stays s (park h s) := by
  unfold park State.modifySession
  dsimp only
  split
  · next x hx => exact (setSession_stays hx (by rfl)).trans (discardPool_stays h .poolParked _)
  · exact discardPool_stays h .poolParked s

/-- Nothing names a FREE handle. -/
theorem Holdings.unnamed {s : State} (g : Holdings s) {h : Nat} (free : s.session h = none) : s.Unnamed h := by
  have payer : s.payer h = none := by rw [State.payer, free]; rfl
  refine ⟨fun i v hv mine => ?_, fun c f hf mine => ?_⟩
  · have := g.payers i v hv
    rw [mine, payer] at this
    cases this
  · have := (g.pool c f hf).2
    rw [mine, payer] at this
    cases this

/-- A session is attached to a FREE handle, in SERVING, its account being OPEN (R72). -/
theorem attach_stays {s : State} {h : Nat} {x : Session} (free : s.session h = none) (serving : s.service = .serving)
    (isOpen : (s.account x.account).isOpen = true) : Stays s (s.setSession h (some x)) :=
  ⟨.of_same rfl rfl rfl rfl, fun g => g.setSession (by rintro _ ⟨⟩; exact ⟨serving, isOpen⟩) (g.unnamed free)⟩

/-! ### Frames that arrive and leave (05) -/

theorem joinPool_stays {s : State} {f : Frame} (length : f.length ≤ 2048) (seated : (s.session f.session).isSome = true) :
    Stays s (joinPool f s) := by
  refine ⟨.of_same rfl rfl rfl rfl, fun g => ⟨⟨⟨g.lists.congr rfl rfl rfl, g.slotsWf, g.accountsRising, g.bounded,
    g.terms.congr rfl rfl rfl rfl, g.seated, g.payers, g.worth, fun c x hx => ?_, g.records, g.carries⟩, g.balance⟩, g.full, g.short⟩⟩
  have joined : x ∈ (s.pool.set f.cls (s.pool.get f.cls ++ [f])).get c := hx
  have was : x ∈ s.pool.get c ∨ x = f := by
    by_cases here : c = f.cls
    · subst here
      rw [PerClass.get_set_self] at joined
      simpa using joined
    · rw [PerClass.get_set_ne _ here] at joined
      exact .inl joined
  rcases was with was | rfl
  · exact g.pool c x was
  · exact ⟨length, by show (s.payer x.session).isSome = true; rw [State.payer, Option.isSome_map]; exact seated⟩

theorem Holdings.contextsOpen {s : State} (g : Holdings s) : ContextsOpen s :=
  ⟨g.rising, fun i e h => (g.lists.opened i).2 (by rw [h]; rfl), g.lists.apart⟩

/-- What is left of a class of the pool is of the pool. -/
theorem pool_set_subset {p : PerClass (List Frame)} {c : TrafficClass} {f : Frame} {rest : List Frame} (queue : p.get c = f :: rest)
    (b : TrafficClass) : (p.set c rest).get b ⊆ p.get b := by
  by_cases here : b = c
  · subst here
    rw [PerClass.get_set_self, queue]
    exact List.subset_cons_self f rest
  · rw [PerClass.get_set_ne _ here]
    exact List.Subset.refl _

theorem deliver_stays : ∀ (n : Nat) (s : State), Stays s (deliver n s)
  | 0, s => .refl s
  | n + 1, s => by
    unfold deliver
    split
    · exact .refl s
    · next c _ =>
      split
      · exact .refl s
      · next f rest queue =>
        split
        · exact ((setPool_stays (pool_set_subset queue)).trans (.offPaths (offPaths_count (.agedPool c) 1 _))).trans (deliver_stays n _)
        · have ended : Stays s (endClosingsBefore f s) := endClosings_stays _ s
          have taken : ListsStay s { endClosingsBefore f s with pool := (endClosingsBefore f s).pool.set c rest } :=
            ended.toListsStay.trans (.of_same rfl rfl rfl rfl)
          refine ⟨taken.trans (meterFrame_listsStay ..), fun g => ?_⟩
          obtain ⟨-, -, pool⟩ : (endClosingsBefore f s).service = s.service ∧ _ := (endClosings_ended _ s g.contextsOpen).2.1.fixed
          have left : Stays (endClosingsBefore f s) { endClosingsBefore f s with pool := (endClosingsBefore f s).pool.set c rest } :=
            setPool_stays (pool_set_subset (by rw [← queue]; exact congrArg (·.get c) pool))
          exact (left.books (ended.books g)).meterFrame _ _ _ (g.pool c f (by rw [queue]; exact List.mem_cons_self)).1

theorem sendHead_listsStay (k : LinkId) (c : TrafficClass) (f : Frame) (rest : List Frame) (s : State) :
    ListsStay s (sendHead k c f rest s) := by
  have left : Stays s (((leaveLink k c rest s).count (.framesSent k) 1).count (.bytesSent k) f.length) := .offPaths (by simp)
  exact (left.toListsStay.trans (meterFrame_listsStay ..)).trans (Stays.offPaths (offPaths_uplinkLeft ..)).toListsStay

theorem Accounted.sendHead {s : State} (g : Accounted s) (k : LinkId) (c : TrafficClass) {f : Frame} (length : f.length ≤ 2048)
    (rest : List Frame) : Accounted (sendHead k c f rest s) := by
  have left : Stays s (((leaveLink k c rest s).count (.framesSent k) 1).count (.bytesSent k) f.length) := .offPaths (by simp)
  exact (Stays.offPaths (offPaths_uplinkLeft ..)).books ((left.books g).meterFrame _ _ _ length)

theorem ageHead_stays (k : LinkId) (c : TrafficClass) (f : Frame) (rest : List Frame) (s : State) :
    Stays s (ageHead k c f rest s) := .offPaths (by simp [ageHead])

theorem transmit_listsStay (k : LinkId) : ∀ (n : Nat) (s : State), ListsStay s (transmit n k s)
  | 0, s => .refl s
  | n + 1, s => by
    unfold transmit
    split
    · exact .refl s
    · split
      · exact .refl s
      · split
        · exact (ageHead_stays ..).toListsStay.trans (transmit_listsStay k n _)
        · exact (endClosings_stays _ s).toListsStay.trans (sendHead_listsStay ..)

/-- The frames on links are of legal length while they are in order. -/
theorem Accounted.transmit (k : LinkId) : ∀ (n : Nat) {s : State}, InOrder s → s.service = .serving → Accounted s →
    Accounted (transmit n k s)
  | 0, _, _, _, g => g
  | n + 1, s, order, serving, g => by
    unfold Machine.transmit
    split
    · exact g
    · next c _ =>
      split
      · exact g
      · next f rest queue =>
        split
        · have service := offPaths_service (s := s) (t := ageHead k c f rest s) (by simp [ageHead])
          exact Accounted.transmit k n (uplinkLeft_inOrder order serving queue (headLeft_aged order.contexts k c rest))
            (service.trans serving) ((ageHead_stays ..).books g)
        · obtain ⟨-, -, -, -, length, -⟩ := order.paths.frames.frame k c f (by rw [queue]; exact List.mem_cons_self)
          exact ((endClosings_stays _ s).books g).sendHead k c length rest

end Sys2Proof.Machine
end

section
/-! SUPPORT. What a command records: contexts stay listed and the books kept; the commands of the links, the routes and the ports
leave the books alone (02, 03, 08). -/

namespace Sys2Proof.Machine

/-! ### Commands and answers -/

/-- The open and seal lists stay lawful, and a state in order is accounted for after as before. -/
structure Recorded (s t : State) : Prop where
  listed : ContextsListed s → ContextsListed t
  books : Standing s → Accounted s → Accounted t

theorem Stays.recorded {s t : State} (m : Stays s t) : Recorded s t := ⟨m.contextsListed, fun _ => m.books⟩

theorem Recorded.andStays {s t u : State} (m : Recorded s t) (n : Stays t u) : Recorded s u :=
  ⟨n.contextsListed ∘ m.listed, fun g a => n.books (m.books g a)⟩

def RecordedBy (s : State) (o : Host.Outcome State Fault Refusal) : Prop := ∀ t, o = .next t → Recorded s t

theorem Recorded.next {s t : State} (m : Recorded s t) : RecordedBy s (.next t) := by rintro _ ⟨⟩; exact m

theorem Stays.next {s t : State} (m : Stays s t) : RecordedBy s (.next t) := m.recorded.next

theorem RecordedBy.ite {s : State} {c : Prop} [Decidable c] {a b : Host.Outcome State Fault Refusal} (ha : c → RecordedBy s a)
    (hb : ¬c → RecordedBy s b) : RecordedBy s (if c then a else b) := by
  split
  · exact ha ‹_›
  · exact hb ‹_›

theorem event_recorded {effect : State → State} {s : State} (m : Recorded s (effect s)) : RecordedBy s (event effect s) :=
  ((m.andStays (settleEvent_stays s _)).andStays (runArbiters_ran _).stays).next

/-- What an answer changes, it records. -/
def AnswerRecorded (s : State) : Answer → Prop
  | .refuse _ _ | .report _ => True
  | .settle t _ | .carry t _ => Recorded s t

theorem conclude_recorded {before : State} (p : Port) (m : Message) {a : Answer} (h : AnswerRecorded before a) :
    Recorded before (conclude p m before a) := by
  cases a with
  | refuse code body => exact (respondRan_stays p m code body before).recorded
  | report body => exact (respondRan_stays p m .ok body before).recorded
  | settle s body =>
    exact ((Recorded.andStays h (followConditions_stays before s)).andStays (respond_stays p m .ok body _)).andStays
      (runArbiters_ran _).stays
  | carry s body =>
    exact ((Recorded.andStays h (settleEvent_stays before s)).andStays (respond_stays p m .ok _ _)).andStays (runArbiters_ran _).stays

/-- Taking a request records what the owning block's answers do. -/
theorem takeRequest_recorded {α : Type} {q : Request} {p : Port} {read : List Byte → Option α} {answer : α → State → Answer}
    {s : State} (h : ∀ f u, AnswerRecorded u (answer f u)) : RecordedBy s (takeRequest q p read answer s) := by
  unfold takeRequest
  split
  · exact (Stays.refl s).next
  · next m _ =>
    have taken : Stays s (dropHead p s) := modifyPort_stays p _ s
    have concluded : Recorded (dropHead p s) (conclude p m (dropHead p s) (answerRequest q p m read answer (dropHead p s))) := by
      refine conclude_recorded p m ?_
      unfold answerRequest
      split
      · trivial
      · split
        · trivial
        · split
          · trivial
          · exact h _ _
    exact Recorded.next ⟨concluded.listed ∘ taken.contextsListed,
      fun g a => concluded.books (g.of_view (pathView_dropHead p s)) (taken.books a)⟩

/-! ### Reads (R17, R37, R65, R89, R140) -/

theorem answerSessionRead_recorded (n : SessionName) (s : State) : AnswerRecorded s (answerSessionRead n s) := by
  unfold answerSessionRead
  repeat' split
  all_goals trivial

theorem answerAccountRead_recorded (a : Nat) (s : State) : AnswerRecorded s (answerAccountRead a s) := by
  unfold answerAccountRead
  split <;> trivial

theorem answerRouteRead_recorded (n : Nat) (s : State) : AnswerRecorded s (answerRouteRead n s) := by
  unfold answerRouteRead
  split <;> trivial

theorem answerLinkRead_recorded (n : Nat) (s : State) : AnswerRecorded s (answerLinkRead n s) := by
  unfold answerLinkRead
  split <;> trivial

theorem answerZoneRead_recorded (n : Option Nat) (s : State) : AnswerRecorded s (answerZoneRead n s) := by
  unfold answerZoneRead
  repeat' split
  all_goals trivial

theorem count_stays (c : Counter) (n : Nat) (s : State) : Stays s (s.count c n) := .offPaths (offPaths_count c n s)

/-! ### Links (02) -/

theorem execWarmUpDeadline_recorded (k : LinkId) (s : State) : RecordedBy s (execWarmUpDeadline k s) :=
  .ite (fun _ => event_recorded (Stays.offPaths (by simp)).recorded) fun _ => (Stays.refl s).next

theorem execLingerDeadline_recorded (k : LinkId) (s : State) : RecordedBy s (execLingerDeadline k s) :=
  .ite (fun _ => event_recorded (Stays.offPaths (offPaths_switchOff k s)).recorded) fun _ => (Stays.refl s).next

theorem execCarrierLoss_recorded (k : LinkId) (s : State) : RecordedBy s (execCarrierLoss k s) := by
  refine .ite (fun _ => event_recorded (Stays.offPaths ?_).recorded) fun _ => (Stays.refl s).next
  unfold carrierLost
  dsimp only
  split
  case h_1 | h_2 | h_3 => exact offPaths_fail k _
  all_goals rfl

theorem execCarrierRegain_recorded (k : LinkId) (s : State) : RecordedBy s (execCarrierRegain k s) := by
  refine .ite (fun _ => (Stays.refl s).next) fun _ => event_recorded (Stays.offPaths ?_).recorded
  unfold carrierRegained
  dsimp only
  split
  case h_1 => exact offPaths_enterWarming k _
  all_goals rfl

theorem setLink_stays (k : LinkId) (l : Link) (s : State) : Stays s (s.setLink k l) := .offPaths rfl

theorem answerLinkSetup_recorded (f : LinkSetupFields) (s : State) : AnswerRecorded s (answerLinkSetup f s) := by
  unfold answerLinkSetup
  split
  · trivial
  dsimp only
  split
  · trivial
  split
  · trivial
  split
  · trivial
  split
  · trivial
  · exact (setLink_stays _ _ s).recorded

theorem answerLinkTune_recorded (f : LinkTuneFields) (s : State) : AnswerRecorded s (answerLinkTune f s) := by
  unfold answerLinkTune
  split
  · trivial
  · next k _ =>
    exact ((Stays.same (s := s) (t := { s.modifyLink k (·.tuned f) with ageLimits := _ }) rfl rfl rfl).trans
      (.offPaths (offPaths_rejudge k _))).recorded

theorem answerPowerOn_recorded (f : Nat × Nat) (s : State) : AnswerRecorded s (answerPowerOn f s) := by
  unfold answerPowerOn
  split
  · trivial
  · next k _ =>
    split
    · trivial
    · split
      case h_2 | h_3 => exact (Stays.offPaths (offPaths_enterWarming k s)).recorded
      all_goals trivial

theorem answerPowerOff_recorded (f : Nat × Nat) (s : State) : AnswerRecorded s (answerPowerOff f s) := by
  unfold answerPowerOff
  split
  · trivial
  · next k _ =>
    split
    case h_4 | h_5 | h_6 => exact (Stays.offPaths (offPaths_switchOff k s)).recorded
    case h_7 => exact (Stays.offPaths (offPaths_retire k s)).recorded
    all_goals trivial

theorem answerStatusUp_recorded (f : Nat × Nat) (s : State) : AnswerRecorded s (answerStatusUp f s) := by
  unfold answerStatusUp
  split
  · trivial
  · next k _ =>
    split
    · trivial
    · split
      case h_2 => exact (Stays.offPaths (offPaths_enterWarming k s)).recorded
      all_goals trivial

theorem answerStatusDown_recorded (f : Nat × Nat) (s : State) : AnswerRecorded s (answerStatusDown f s) := by
  unfold answerStatusDown
  split
  · trivial
  · next k _ =>
    split
    case h_1 | h_2 | h_3 => trivial
    all_goals exact (Stays.offPaths (offPaths_fail k s)).recorded

theorem answerLinkReport_recorded (f : Nat × Nat) (s : State) : AnswerRecorded s (answerLinkReport f s) := by
  unfold answerLinkReport
  split
  · trivial
  · next k _ =>
    split
    · exact (Stays.offPaths ((offPaths_rejudge k _).trans (offPaths_modifyLink ..))).recorded
    · exact (count_stays _ 1 s).recorded

/-! ### Routes (03) -/

theorem answerRoutePolicy_recorded (f : PolicyFields) (s : State) : AnswerRecorded s (answerRoutePolicy f s) := by
  unfold answerRoutePolicy
  split
  · trivial
  · next r _ =>
    split
    · trivial
    · exact (Stays.offPaths ((offPaths_inServing (offPaths_answerPolicy r) _).trans (offPaths_modifyRoute ..))).recorded

theorem checkedSwap_recorded {answer : RouteId → SwapTarget → State → Answer} {s : State} (f : SwapFields)
    (h : ∀ r t, AnswerRecorded s (answer r t s)) : AnswerRecorded s (checkedSwap f answer s) := by
  unfold checkedSwap
  split
  · trivial
  split
  · trivial
  split
  · trivial
  split
  · trivial
  split
  · exact h _ _
  split
  · trivial
  split
  · exact h _ _
  · trivial

theorem answerSwap_recorded (r : RouteId) (t : SwapTarget) (s : State) : AnswerRecorded s (answerSwap r t s) := by
  unfold answerSwap
  split
  · exact (Stays.offPaths (offPaths_startSwap ..)).recorded
  · split
    · trivial
    · split
      · trivial
      · exact (Stays.offPaths (offPaths_startSwap ..)).recorded
  · split
    · trivial
    · exact (Stays.offPaths (offPaths_selectForced startSwap_onPaths ..)).recorded

theorem answerSwapForce_recorded (r : RouteId) (t : SwapTarget) (s : State) : AnswerRecorded s (answerSwapForce r t s) := by
  unfold answerSwapForce
  split
  · exact (Stays.offPaths (by simp [forceTo, clearReselect])).recorded
  · exact (Stays.offPaths (by simp [clearReselect])).recorded
  · split
    · trivial
    · exact (Stays.offPaths (by simp [clearReselect])).recorded

theorem execDrainDeadline_recorded (r : RouteId) (s : State) : RecordedBy s (execDrainDeadline r s) := by
  refine .ite (fun _ => event_recorded (Stays.offPaths ?_).recorded) fun _ => (Stays.refl s).next
  unfold endDrain
  split <;> simp

theorem execProbationDeadline_recorded (r : RouteId) (s : State) : RecordedBy s (execProbationDeadline r s) := by
  refine .ite (fun _ => event_recorded (Stays.offPaths ?_).recorded) fun _ => (Stays.refl s).next
  unfold passProbation
  rw [offPaths_backToIdle startSwap_onPaths]
  rfl

theorem execSettleDeadline_recorded (r : RouteId) (s : State) : RecordedBy s (execSettleDeadline r s) := by
  refine .ite (fun _ => event_recorded (Stays.offPaths ?_).recorded) fun _ => (Stays.refl s).next
  unfold settleReached
  dsimp only
  repeat' split
  all_goals simp

/-! ### Settings (R91, R156, R164, R165, R170) -/

theorem answerStoreSetup_recorded (share : Nat) (s : State) : AnswerRecorded s (answerStoreSetup share s) := by
  unfold answerStoreSetup
  split
  · trivial
  split
  · trivial
  split
  · trivial
  · exact (Stays.same (s := s) (t := { s with poolShare := share }) rfl rfl rfl).recorded

theorem answerNoticeSetup_recorded (p : Port) (f : NoticeSetupFields) (s : State) : AnswerRecorded s (answerNoticeSetup p f s) := by
  unfold answerNoticeSetup
  split
  · trivial
  · exact (modifyPort_stays p _ s).recorded

theorem answerCountersRead_recorded (p : Port) (code : Nat) (s : State) : AnswerRecorded s (answerCountersRead p code s) := by
  unfold answerCountersRead
  split
  · trivial
  · exact (modifyPort_stays p _ s).recorded

/-! ### The ports (R147 to R150, R158, R166, R167) -/

theorem execRequestReceived_recorded (p : Port) (m : Message) (s : State) : RecordedBy s (execRequestReceived p m s) :=
  .ite (fun _ => (Stays.refl s).next) fun _ => .ite (fun _ => (modifyPort_stays p _ s).next) fun _ =>
    .ite (fun _ => (respondRan_stays p m .busy [] s).next) fun _ => (Stays.refl s).next

theorem execMessageSent_recorded (p : Port) (s : State) : RecordedBy s (execMessageSent p s) :=
  .ite (fun _ => (Stays.refl s).next) fun _ => ((modifyPort_stays p _ s).trans (runArbiter_ran p _).stays).next

theorem execSyncLost_recorded (p : Port) (s : State) : RecordedBy s (execSyncLost p s) :=
  .ite (fun _ => (Stays.refl s).next) fun _ =>
    (((modifyPort_stays p _ s).trans (resetPort_stays p _)).trans (runArbiters_ran _).stays).next

theorem execPacingDeadline_recorded (p : Port) (s : State) : RecordedBy s (execPacingDeadline p s) :=
  .ite (fun _ => ((modifyPort_stays p _ s).trans (runArbiter_ran p _).stays).next) fun _ => (Stays.refl s).next

theorem execVoyageClockTick_recorded (s : State) : RecordedBy s (execVoyageClockTick s) :=
  .ite (fun _ => (Stays.same (s := s) (t := { s with clock := s.clock.next }) rfl rfl rfl).next) fun _ => (Stays.refl s).next

end Sys2Proof.Machine
end

section
/-! SUPPORT. The commands of the session unit, the account unit, the meter and the frame switch keep the books (04 to 07). -/

namespace Sys2Proof.Machine

/-! ### Sessions (R70 to R75, R81, R87, R88) -/

theorem State.freeHandle_some {s : State} {h : Nat} (found : s.freeHandle = some h) : s.session h = none := by
  unfold State.freeHandle at found
  have free := List.find?_some found
  exact Option.isNone_iff_eq_none.1 free

theorem answerAttach_recorded (f : AttachFields) (s : State) : AnswerRecorded s (answerAttach f s) := by
  unfold answerAttach
  split
  · trivial
  · next serving =>
    split
    · trivial
    · split
      · next group _ _ =>
        split
        · trivial
        · next isOpen =>
          split
          · trivial
          · split
            · trivial
            · split
              · trivial
              · next h free =>
                have attached : Stays s (s.setSession h (some (s.attached f group))) :=
                  attach_stays (State.freeHandle_some free) (not_not.1 serving) (Bool.of_not_eq_false isOpen)
                exact (attached.trans (mapTags_stays ..)).recorded
      · trivial

theorem answerDetach_recorded (h : Nat) (s : State) : AnswerRecorded s (answerDetach h s) := by
  unfold answerDetach
  split
  · trivial
  · split
    · trivial
    · exact (enterClosing_stays h .detach s).recorded

theorem answerBearerAdd_recorded (f : BearerFields) (s : State) : AnswerRecorded s (answerBearerAdd f s) := by
  unfold answerBearerAdd
  split
  · trivial
  · next x named =>
    split
    · trivial
    · split
      · split
        · trivial
        · split
          · trivial
          · exact ((setSession_stays (State.named_some named) (by rfl)).trans (setTag_stays ..)).recorded
      · trivial

theorem answerBearerDrop_recorded (f : Nat × Nat) (s : State) : AnswerRecorded s (answerBearerDrop f s) := by
  unfold answerBearerDrop
  split
  · trivial
  · next x named =>
    split
    · trivial
    · split
      · trivial
      · split
        · trivial
        · exact ((setSession_stays (State.named_some named) (by rfl)).trans (setTag_stays ..)).recorded

theorem answerResume_recorded (h : Nat) (s : State) : AnswerRecorded s (answerResume h s) := by
  unfold answerResume
  split
  · trivial
  · next x named =>
    split
    · trivial
    · trivial
    · split
      · trivial
      · exact ((setSession_stays (State.named_some named) (by rfl)).trans (.still (.evaluateRoaming h _))).recorded

theorem answerBar_recorded (f : Nat × Option (BitVec 64)) (s : State) : AnswerRecorded s (answerBar f s) := by
  unfold answerBar
  split
  · exact (Stays.still (.setCause f.1 .barred true s)).recorded
  · trivial

theorem answerUnbar_recorded (f : Nat × Option (BitVec 64)) (s : State) : AnswerRecorded s (answerUnbar f s) := by
  unfold answerUnbar
  split
  · exact (Stays.still (.setCause f.1 .barred false s)).recorded
  · trivial

theorem execParkDeadline_recorded (h : Fin 512) (s : State) : RecordedBy s (execParkDeadline h s) :=
  .ite (fun _ => event_recorded ((enterClosing_stays h.val .expiry s).trans (.still (.raise ..))).recorded) fun _ => (Stays.refl s).next

/-! ### Accounts (R133 to R139) -/

/-- An account's record is rewritten with its books balanced and its carry as it was: as an OPEN one, or one that nothing names. -/
theorem Accounted.setAccount {s : State} (g : Accounted s) {a : Nat} {x : Account}
    (isOpen : x.isOpen = true ∨ (∀ h, s.payer h ≠ some a) ∧ ∀ r ∈ s.crq, r.account ≠ a)
    (carry : x.carry.charge = (s.account a).carry.charge) (carried : 0 < x.carry.charge → x.isOpen = true)
    (own : x.isOpen = true → x.rated < 281474976710655 →
      x.rated = x.delivered + s.queuedCharge a + s.contextCharge a + x.carry.charge) : Accounted (s.setAccount a x) := by
  have ledger : Ledger (s.rebook a x s.crq) := ⟨g.toHoldings.rebook isOpen carried g.bounded g.records,
    booksBalance_rebook (fun b _ => g.balance b) (fun _ _ => rfl) own⟩
  refine ⟨ledger, fun waits => g.full (waits.imp_right fun ⟨b, pos⟩ => ⟨b, ?_⟩), g.short⟩
  rw [s.account_setAccount] at pos
  split at pos
  · next h => rw [h, ← carry]; exact pos
  · exact pos

/-- An account that is opened has nothing in any of the four places (R133). -/
theorem openedAccount_books (kind : AccountKind) (f : AccountOpenFields) :
    (openedAccount kind f).isOpen = true ∧ (openedAccount kind f).rated = 0 ∧ (openedAccount kind f).delivered = 0
      ∧ (openedAccount kind f).carry.charge = 0 := by
  cases kind <;> exact ⟨rfl, rfl, rfl, rfl⟩

theorem Holdings.carry_of_closed {s : State} (g : Holdings s) {a : Nat} (closed : (s.account a).isOpen = false) :
    (s.account a).carry.charge = 0 := by
  refine Nat.eq_zero_of_not_pos fun pos => ?_
  have isOpen := g.carries a pos
  rw [closed] at isOpen
  cases isOpen

theorem openAccount_stays {s : State} {a : Nat} (closed : (s.account a).isOpen = false) (kind : AccountKind)
    (f : AccountOpenFields) : Stays s (s.setAccount a (openedAccount kind f)) := by
  obtain ⟨isOpen, rated, delivered, carry⟩ := openedAccount_books kind f
  refine ⟨.of_same rfl rfl rfl rfl, fun g => g.setAccount (.inl isOpen) ?_ (fun _ => isOpen) fun _ _ => ?_⟩
  · rw [carry, g.carry_of_closed closed]
  · obtain ⟨queued, held⟩ := g.nothing_booked closed
    rw [rated, delivered, carry, queued, held]

/-- Nothing names an account that no bar keeps open (R134). -/
theorem Accounted.closeAccount {s : State} (g : Accounted s) {a : Nat} (bar : s.closeBar a = none) :
    Accounted (s.setAccount a { s.account a with isOpen := false }) := by
  unfold State.closeBar at bar
  split at bar
  · cases bar
  next sessions =>
  split at bar
  · cases bar
  next carry =>
  split at bar
  · next records =>
    refine g.setAccount (.inr ⟨fun h payer => sessions ?_, fun r hr mine => ?_⟩) rfl (fun pos => absurd pos carry) nofun
    · obtain ⟨x, hx, account⟩ := Option.map_eq_some_iff.1 payer
      exact List.countP_pos_iff.2 ⟨(h, x), Table.mem_of_get? hx, decide_eq_true account⟩
    · have mem : r ∈ s.recordsOf a := List.mem_filter.2 ⟨hr, decide_eq_true mine⟩
      rw [List.isEmpty_iff.1 records] at mem
      cases mem
  · cases bar

theorem settleAccount_stays (notices : Bool) {a : Nat} {x : Account} {s : State} (isOpen : x.isOpen = (s.account a).isOpen)
    (delivered : x.delivered = (s.account a).delivered) (carry : x.carry.charge = (s.account a).carry.charge)
    (rated : x.rated = (s.account a).rated) : Stays s (settleAccount notices a x s) :=
  .still (((Charged.settleAccount s isOpen delivered carry rated).andStill (.judgeFlags notices a _)).andStill
    (.settleAccount _ rfl rfl rfl rfl))

/-- A credit leaves the books alone (R138). -/
theorem Account.credit_books (x : Account) (amount : Nat) :
    (x.credit amount).1.isOpen = x.isOpen ∧ (x.credit amount).1.delivered = x.delivered ∧ (x.credit amount).1.carry = x.carry
      ∧ (x.credit amount).1.rated = x.rated := by
  unfold Account.credit
  split
  · split <;> exact ⟨rfl, rfl, rfl, rfl⟩
  all_goals exact ⟨rfl, rfl, rfl, rfl⟩

theorem answerAccountOpen_recorded (f : AccountOpenFields) (s : State) : AnswerRecorded s (answerAccountOpen f s) := by
  unfold answerAccountOpen
  split
  · trivial
  · split
    · trivial
    · next closed =>
      split
      · trivial
      · next kind _ =>
        split
        · exact ((openAccount_stays (Bool.of_not_eq_true closed) kind f).trans (.still (.judgeFlags ..))).recorded
        · trivial

theorem answerAccountClose_recorded (a : Nat) (s : State) : AnswerRecorded s (answerAccountClose a s) := by
  unfold answerAccountClose
  split
  · trivial
  · dsimp only
    split
    · split
      · trivial
      · next bar => exact Stays.recorded ⟨.of_same rfl rfl rfl rfl, fun g => g.closeAccount bar⟩
    · trivial

theorem answerAccountCredit_recorded (f : CreditFields) (s : State) : AnswerRecorded s (answerAccountCredit f s) := by
  unfold answerAccountCredit
  dsimp only
  split
  · trivial
  · split
    · trivial
    · split
      · trivial
      · split
        · trivial
        · obtain ⟨isOpen, delivered, carry, rated⟩ := (s.account f.account).credit_books f.amount
          exact (settleAccount_stays false isOpen delivered (by rw [carry]) rated).recorded

theorem answerAccountSet_recorded (f : AccountSetFields) (s : State) : AnswerRecorded s (answerAccountSet f s) := by
  unfold answerAccountSet
  dsimp only
  split
  · trivial
  · split
    · trivial
    · split
      · trivial
      · split
        · trivial
        · exact (settleAccount_stays (x := (s.account f.account).withSettings f) true rfl rfl rfl rfl).recorded

/-! ### The meter (R114, R124, R142) -/

theorem answerRecordTake_recorded (n : Nat) (s : State) : AnswerRecorded s (answerRecordTake n s) := by
  unfold answerRecordTake
  split
  · trivial
  · split
    · trivial
    · exact (takeRecords_stays n s).recorded

theorem clamp_bounds {low high : Nat} (le : low ≤ high) (v : Nat) : low ≤ clamp low high v ∧ clamp low high v ≤ high := by
  unfold clamp
  omega

/-- A parameter that is given is clamped, and else stays as it was. -/
theorem clamped_bounds {low high old : Nat} (le : low ≤ high) (was : low ≤ old ∧ old ≤ high) (given : Option Nat) :
    low ≤ (given.map (clamp low high)).getD old ∧ (given.map (clamp low high)).getD old ≤ high := by
  cases given with
  | none => exact was
  | some v => exact clamp_bounds le v

theorem answerMeterSetup_recorded (f : MeterSetupFields) (s : State) : AnswerRecorded s (answerMeterSetup f s) := by
  refine Stays.recorded (s := s) (t := { s with meter := s.meter.setUp f }) ⟨.of_same rfl rfl rfl rfl, fun g => ?_⟩
  obtain ⟨interval, byteLimit, recordMark, tariff, placed, serving⟩ := g.terms
  have terms : Terms (s.onTerms (s.meter.setUp f) s.tariff s.zone s.service) :=
    ⟨clamped_bounds (by decide) interval f.interval, clamped_bounds (by decide) byteLimit f.byteLimit,
      clamped_bounds (by decide) recordMark f.recordMark, tariff, placed, serving⟩
  exact g.onTerms terms id

theorem execIntervalDeadline_recorded (i : Fin 64) (s : State) : RecordedBy s (execIntervalDeadline i s) :=
  .ite (fun _ => event_recorded (Stays.closeContext .interval i.val s).recorded) fun _ => (Stays.refl s).next

/-! ### Frames (R97 to R105) -/

theorem execUplinkFrame_recorded (tag : Nat) (source : BitVec 32) (length : Nat) (s : State) :
    RecordedBy s (execUplinkFrame tag source length s) := by
  unfold execUplinkFrame
  split
  · exact (count_stays _ 1 s).next
  · exact (Stays.offPaths (offPaths_joinLink ..)).next

/-- A frame that the pool admits is of legal length and of a session (R99, R100). -/
theorem classifyDownlink_frame {s : State} {k : LinkId} {a : BitVec 32} {c : TrafficClass} {length : Nat} {f : Frame}
    (h : s.classifyDownlink k a c length = .ok f) : f.length ≤ 2048 ∧ (s.session f.session).isSome = true := by
  unfold State.classifyDownlink at h
  split at h
  · cases h
  split at h
  · cases h
  next legal =>
  split at h
  · cases h
  split at h
  · cases h
  next x session =>
  have frame : f.length = length ∧ (s.session f.session).isSome = true := by
    repeat' split at h
    all_goals cases h
    exact ⟨rfl, by rw [session]; rfl⟩
  rw [frame.1]
  exact ⟨((legalLength_iff length).1 (Bool.of_not_eq_false legal)).2, frame.2⟩

theorem execDownlinkFrame_recorded (k : LinkId) (a : BitVec 32) (c : TrafficClass) (length : Nat) (s : State) :
    RecordedBy s (execDownlinkFrame k a c length s) := by
  have counted : Stays s (countReceived k length s) := (count_stays _ 1 s).trans (count_stays _ length _)
  unfold execDownlinkFrame
  dsimp only
  generalize countReceived k length s = u at counted ⊢
  split
  · exact (counted.trans (count_stays _ 1 u)).next
  · next f ok =>
    obtain ⟨length, seated⟩ := classifyDownlink_frame ok
    exact (counted.trans (joinPool_stays length seated)).next

theorem execTransmitOpportunity_recorded (k : LinkId) (s : State) : RecordedBy s (execTransmitOpportunity k s) := by
  refine event_recorded ⟨(transmit_listsStay k _ s).contextsListed, fun standing g => ?_⟩
  cases h : s.service with
  | serving => exact Accounted.transmit k _ standing.toInOrder h g
  | configuring =>
    obtain ⟨-, -, queues⟩ := standing.paths.idle.frames h
    rw [queues]
    exact g

theorem execDeliveryOpportunity_recorded (s : State) : RecordedBy s (execDeliveryOpportunity s) :=
  event_recorded (deliver_stays _ s).recorded

end Sys2Proof.Machine
end

section
/-! SUPPORT. The zone tracker, the tariff table, the service start and the full reset keep the books (01, 07 section 8.2, 08). -/

namespace Sys2Proof.Machine

/-! ### Crossings (R15, R125) -/

theorem closeAll_openContext (which : List (Nat × CloseReason)) (s : State) (j : Nat) :
    (closeAll which s).openContext j = if j ∈ which.map (·.1) then none else s.openContext j := by
  induction which generalizing s with
  | nil => rfl
  | cons e l ih =>
    rw [show closeAll (e :: l) s = closeAll l (closeContext e.2 e.1 s) from rfl, ih, (closeContext_closed e.2 e.1 s).openContext]
    by_cases here : j = e.1 <;> by_cases later : j ∈ l.map (·.1) <;> simp [here, later]

/-- A crossing keeps the books; and it leaves no context OPEN where it changes the tariff zone (R125). -/
theorem crossing_closes (x : Crossing) (s : State) :
    Stays s (crossing x s) ∧ (x.changesZone = true → Lists s → ∀ i, (crossing x s).openContext i = none) := by
  have answered : Stays s (inServing (fun s => allRoutes.foldl (fun s r => answerCrossing r s) s) s) :=
    .offPaths (offPaths_inServing (fun s => offPaths_fold (fun s r => offPaths_answerCrossing r s) _ s) s)
  unfold crossing
  dsimp only
  generalize inServing _ s = t at answered ⊢
  have roamed := answered.trans (.still (.evaluateAllRoaming t))
  generalize evaluateAllRoaming t = u at roamed ⊢
  generalize (if x.new.2.silent then u.activeSessions else []) = handles
  have parked : Stays s (handles.foldl (fun s h => park h s) u) := roamed.trans (.fold (fun s h => park_stays h s) handles u)
  generalize handles.foldl (fun s h => park h s) u = v at parked ⊢
  refine ⟨(parked.trans (.closeAll _ v)).trans (.still ((Charged.raise .lp .zoneCrossed x.new.1 _).andStill (.raise ..))),
    fun changes lists i => ?_⟩
  show (closeAll (crossingCloses x.changesZone handles v) v).openContext i = none
  rw [closeAll_openContext]
  cases opened : v.openContext i with
  | none => exact ite_self _
  | some e =>
    obtain ⟨y, d⟩ := e
    refine if_pos (List.mem_map.2 ?_)
    have listed : i ∈ v.openList := ((parked.lists lists).opened i).2 (by rw [opened]; rfl)
    refine ⟨(i, if handles.contains y.session then .park else .zone), List.mem_filterMap.2 ⟨i, listed, ?_⟩, rfl⟩
    rw [opened, changes]
    dsimp only
    split <;> rfl

/-- With no context OPEN, the lists are as they should be whatever the zone. -/
theorem contextsListed_of_none {s : State} (lists : Lists s) (none : ∀ i, s.openContext i = none) : ContextsListed s :=
  (contextsListed_iff s).2 ⟨lists, fun i e he => by rw [none] at he; cases he⟩

theorem State.zoneNumber_of_record {s : State} {r : Nat × Segment} (h : s.currentRecord = some r) : s.zoneNumber = r.2.zone.val := by
  rw [State.zoneNumber, State.currentZone, ← s.currentRecord_segment, h]
  rfl

/-- Every fix of a zone tracker is in a segment of its table. -/
def Zone.Placed (z : Zone) : Prop := ∀ f, z.tracker.fix? = some f → f.segment < z.table.length

/-- The zone tracker moves, and in SERVING has a current segment. -/
theorem Accounted.setZone {s : State} (g : Accounted s) {z : Zone} (placed : z.Placed)
    (current : s.service = .serving → ({ s with zone := z } : State).segment.isSome = true) : Accounted { s with zone := z } := by
  have terms : Terms (s.onTerms s.meter s.tariff z s.service) :=
    ⟨g.terms.interval, g.terms.byteLimit, g.terms.recordMark, g.terms.tariff, placed,
      fun serving => ⟨(g.terms.serving serving).1, current serving⟩⟩
  exact g.onTerms terms id

/-- The zone tracker moves, and the crossing from the segment that was current is published (R15). -/
theorem publish_recorded {s : State} {z : Zone} (cause : CrossingCause) (fixed : z.tracker.fix?.isSome = true) (placed : z.Placed) :
    Recorded s (publish cause s.currentRecord { s with zone := z }) := by
  have current : ({ s with zone := z } : State).segment.isSome = true := State.segment_isSome_of_placed fixed placed
  have moved : Accounted s → Accounted { s with zone := z } := fun g => g.setZone placed fun _ => current
  obtain ⟨new, record⟩ : ∃ new, ({ s with zone := z } : State).currentRecord = some new := by
    rw [← State.currentRecord_segment, Option.isSome_map] at current
    exact Option.isSome_iff_exists.1 current
  rw [publish_current record]
  obtain ⟨crossed, closes⟩ := crossing_closes { cause := cause, old := s.currentRecord, new := new } { s with zone := z }
  refine ⟨fun listed => ?_, fun _ g => crossed.books (moved g)⟩
  obtain ⟨lists, zone⟩ := (contextsListed_iff s).1 listed
  have lists : Lists { s with zone := z } := lists.congr rfl rfl rfl
  by_cases changes : Crossing.changesZone { cause := cause, old := s.currentRecord, new := new } = true
  · exact contextsListed_of_none (crossed.lists lists) (closes changes lists)
  · have same : ({ s with zone := z } : State).zoneNumber = s.zoneNumber := by
      unfold Crossing.changesZone at changes
      cases old : s.currentRecord with
      | none => rw [old] at changes; exact absurd rfl changes
      | some r =>
        rw [old] at changes
        have equal : r.2.zone = new.2.zone := Decidable.not_not.1 fun ne => changes (decide_eq_true ne)
        rw [State.zoneNumber_of_record record, State.zoneNumber_of_record old, equal]
    exact crossed.contextsListed ((contextsListed_iff _).2 ⟨lists, fun i e he => (zone i e he).trans same.symm⟩)

/-- The zone tracker moves within a segment. -/
theorem setZone_recorded {s : State} {z : Zone} (same : ({ s with zone := z } : State).segment = s.segment)
    (placed : s.zone.Placed → z.Placed) : Recorded s { s with zone := z } where
  listed listed := by
    obtain ⟨lists, zone⟩ := (contextsListed_iff s).1 listed
    have number : ({ s with zone := z } : State).zoneNumber = s.zoneNumber := by
      rw [State.zoneNumber, State.currentZone, same]; rfl
    exact (contextsListed_iff _).2 ⟨lists.congr rfl rfl rfl, fun i e he => (zone i e he).trans number.symm⟩
  books _ g := g.setZone (placed g.terms.placed) fun serving => by rw [same]; exact (g.terms.serving serving).2

/-! ### The service start (R153 to R155) -/

/-- The start check passes with a tariff table and a fix (R153). -/
theorem State.startConditions_met {s : State} (met : s.startConditions = (true, true, true, true)) :
    s.tariff.isSome = true ∧ s.zone.tracker.fix?.isSome = true := by
  simp only [State.startConditions, Prod.mk.injEq] at met
  obtain ⟨-, located, tariff, -⟩ := met
  refine ⟨tariff, ?_⟩
  unfold State.located at located
  split at located
  · next h => rw [h]; rfl
  all_goals cases located

theorem startCheck_stays (s : State) : Stays s (startCheck s) := by
  unfold startCheck
  split
  · exact .refl s
  · split
    · next met =>
      obtain ⟨tariff, fixed⟩ := State.startConditions_met met
      have entered : Stays s { s with service := .serving } := by
        refine ⟨.of_same rfl rfl rfl rfl, fun g => ?_⟩
        have terms : Terms (s.onTerms s.meter s.tariff s.zone .serving) :=
          ⟨g.terms.interval, g.terms.byteLimit, g.terms.recordMark, g.terms.tariff, g.terms.placed,
            fun _ => ⟨tariff, State.segment_isSome_of_placed fixed g.terms.placed⟩⟩
        exact g.onTerms terms fun _ => rfl
      exact entered.trans (.offPaths (offPaths_reselectAllDark _))
    · exact .refl s

theorem start_recorded (p : Port) (s : State) : AnswerRecorded s (.carry (start p s) startBody) :=
  ((modifyPort_stays p _ s).trans (startCheck_stays _)).recorded

/-! ### The tracker (R5, R6, R10 to R14) -/

theorem segmentAt_lt {table : List Segment} (h : table ≠ []) (d : Nat) : segmentAt table d < table.length := by
  simpa only [isSome_getElem?] using getElem_segmentAt h d

theorem becomeStale_recorded (s : State) : Recorded s (becomeStale s) := by
  unfold becomeStale
  split
  · next f d located =>
    refine setZone_recorded (by simp [State.segment, State.segmentIndex, Tracker.fix?, located]) fun placed => ?_
    rintro _ ⟨⟩
    exact placed f (by rw [located]; rfl)
  all_goals exact (Stays.refl s).recorded

theorem execStaleExpiry_recorded (s : State) : RecordedBy s (execStaleExpiry s) :=
  .ite (fun _ => event_recorded (becomeStale_recorded s)) fun _ => (Stays.refl s).next

/-- While UNLOCATED there is no current segment. -/
theorem State.currentRecord_unlocated {s : State} (h : s.zone.tracker = .unlocated) : s.currentRecord = none := by
  simp [State.currentRecord, State.segmentIndex, h, Tracker.fix?]

theorem State.currentRecord_fix {s : State} {f : Fix} (h : s.zone.tracker.fix? = some f) :
    s.currentRecord = s.segmentRecord f.segment := by
  simp [State.currentRecord, State.segmentIndex, h]

theorem firstFix_recorded {s : State} (unlocated : s.zone.tracker = .unlocated) (table : s.zone.table ≠ []) (d : Nat) :
    Recorded s (firstFix d s) := by
  unfold firstFix
  rw [← State.currentRecord_unlocated unlocated]
  refine publish_recorded .firstFix rfl ?_
  rintro _ ⟨⟩
  exact segmentAt_lt table d

theorem goodReport_recorded {s : State} {f : Fix} (fix : s.zone.tracker.fix? = some f) (table : s.zone.table ≠ []) (d : Nat) :
    Recorded s (goodReport f d s).1 := by
  obtain ⟨z, same, ⟨segment, report⟩ | ⟨segment, report⟩⟩ := goodReport_cases f d s
  all_goals
    obtain ⟨f', fixed, at'⟩ := Option.map_eq_some_iff.1 segment
    rw [report]
  · rw [← State.currentRecord_fix fix]
    refine publish_recorded .confirmed (by rw [fixed]; rfl) fun x hx => ?_
    obtain rfl : f' = x := Option.some.inj (fixed.symm.trans hx)
    rw [at', same]
    exact segmentAt_lt table d
  · refine setZone_recorded ?_ fun placed x hx => ?_
    · simp [State.segment, State.segmentIndex, fixed, fix, at', same]
    · obtain rfl : f' = x := Option.some.inj (fixed.symm.trans hx)
      rw [at', same]
      exact placed f fix

theorem goodPosition_recorded {s : State} (table : s.zone.table ≠ []) (d : Nat) : Recorded s (goodPosition d s).1 := by
  unfold goodPosition
  split
  · next unlocated => exact (firstFix_recorded unlocated table d).andStays (startCheck_stays _)
  · next located => exact goodReport_recorded (by rw [located]; rfl) table d
  · next stale => exact (goodReport_recorded (by rw [stale]; rfl) table d).andStays (startCheck_stays _)

theorem answerPosition_recorded (f : Nat × Nat) (s : State) : AnswerRecorded s (answerPosition f s) := by
  unfold answerPosition
  split
  · trivial
  · split
    · trivial
    · next table =>
      split
      · exact (count_stays .degradedPosition 1 s).recorded
      · exact goodPosition_recorded (fun e => table (by rw [e]; rfl)) f.1

/-! ### ZONE_LOAD (R2 to R6) -/

theorem loadZones_recorded {f : ZoneLoadFields} (sound : zoneFault f.segments = none) (s : State) : Recorded s (loadZones f s) := by
  have table : (s.zone.install f).table ≠ [] := fun e => ne_nil_of_zoneFault sound (List.map_eq_nil_iff.1 e)
  unfold loadZones
  dsimp only
  refine Recorded.andStays ?_ (startCheck_stays _)
  rcases relocated_segment table s.now with ⟨un, was⟩ | ⟨x, fix, segment⟩
  · rw [un]
    refine setZone_recorded ?_ fun _ => nofun
    simp [State.segment, State.segmentIndex, Tracker.fix?, show s.zone.tracker = .unlocated from was]
  · have published := publish_recorded (s := s) (z := { s.zone.install f with tracker := (s.zone.install f).relocated s.now })
      .reload (by rw [fix]; rfl) fun y hy => by
        obtain rfl : x = y := Option.some.inj (fix.symm.trans hy)
        simpa only [isSome_getElem?] using segment
    split
    · next un => rw [un] at fix; cases fix
    all_goals exact published

theorem answerZoneLoad_recorded (f : ZoneLoadFields) (s : State) : AnswerRecorded s (answerZoneLoad f s) := by
  unfold answerZoneLoad
  split
  · trivial
  · next sound => exact loadZones_recorded sound s

/-! ### TARIFF_LOAD (R130, R131) -/

theorem tariffFault_none : ∀ {l : List RawTariff} {i : Nat}, tariffFault i l = none → ∀ e ∈ l, e.fault = none
  | x :: rest, i, sound, e, he => by
    unfold tariffFault at sound
    split at sound
    · cases sound
    · next faultless =>
      rcases List.mem_cons.1 he with rfl | he
      · exact faultless
      · exact tariffFault_none sound e he

theorem RawTariff.rates_le {e : RawTariff} (sound : e.fault = none) (c : TrafficClass) : e.rates.get c ≤ 65535 := by
  unfold RawTariff.fault at sound
  split at sound
  · cases sound
  · split at sound
    · cases sound
    · next fits =>
      rw [List.any_eq_true] at fits
      exact Nat.not_lt.1 fun high => fits ⟨c, mem_allClasses c, decide_eq_true high⟩

/-- A table that passes the checks of R130 is lawful. -/
theorem tariffLawful_of_checks {l : List RawTariff} (length : l.length = 64) (sound : tariffFault 0 l = none) :
    TariffLawful (l.map RawTariff.install) := by
  refine ⟨by rw [List.length_map, length], fun e he c => ?_⟩
  obtain ⟨x, hx, rfl⟩ := List.mem_map.1 he
  exact RawTariff.rates_le (tariffFault_none sound x hx) c

theorem setTariff_stays {t : List TariffEntry} (lawful : TariffLawful t) (s : State) : Stays s { s with tariff := some t } := by
  refine ⟨.of_same rfl rfl rfl rfl, fun g => ?_⟩
  have terms : Terms (s.onTerms s.meter (some t) s.zone s.service) :=
    ⟨g.terms.interval, g.terms.byteLimit, g.terms.recordMark, by rintro _ ⟨⟩; exact lawful, g.terms.placed,
      fun serving => ⟨rfl, (g.terms.serving serving).2⟩⟩
  exact g.onTerms terms id

theorem answerTariffLoad_recorded (l : List RawTariff) (s : State) : AnswerRecorded s (answerTariffLoad l s) := by
  unfold answerTariffLoad
  split
  · trivial
  · next length =>
    split
    · trivial
    · next sound =>
      have lawful := tariffLawful_of_checks (Decidable.not_not.1 length) sound
      exact ((((Stays.closeAll _ s).trans (setTariff_stays lawful _)).trans (.still (.evaluateAllRoaming _))).trans
        (startCheck_stays _)).recorded

/-! ### FULL_RESET (R157) -/

theorem lists_of_empty {s : State} (slots : s.slots = .empty) (openList : s.openList = []) (sealList : s.sealList = []) : Lists s := by
  have opened := openContext_of_empty slots
  have slot := slot_of_empty slots
  constructor
  · rw [openList]; exact List.nodup_nil
  · rw [sealList]; exact List.nodup_nil
  · intro i; rw [openList, opened]; exact ⟨nofun, nofun⟩
  · intro i; rw [sealList, slot]; exact ⟨nofun, nofun⟩
  · intro i j x y h; rw [opened] at h; cases h

/-- With no session, context, record or charge, and the meter's parameters at their reset values, the books are kept. -/
theorem accounted_of_nothing {s : State} (view : s.bookView = State.reset.bookView) (sessions : s.sessions = .empty)
    (pool : s.pool = .all []) : Accounted s := by
  have field {α : Type} (f : State → α) : f s.bookView = f State.reset.bookView := congrArg f view
  have slots : s.slots = .empty := field State.slots
  have sealList : s.sealList = [] := field State.sealList
  have accounts : s.accounts = .empty := field State.accounts
  have crq : s.crq = [] := field State.crq
  have meter : s.meter = State.reset.meter := field State.meter
  have tariff : s.tariff = none := field State.tariff
  have zone : s.zone = State.reset.zone := field State.zone
  have service : s.service = .configuring := field State.service
  have account : ∀ a, s.account a = .reset := fun a => by rw [State.account, accounts]; rfl
  have slot := slot_of_empty slots
  have payer : ∀ h, s.payer h = none := fun h => by rw [State.payer, State.session, sessions]; rfl
  have terms : Terms s := by
    refine ⟨?_, ?_, ?_, by rw [tariff]; exact nofun, by rw [zone]; exact nofun, by rw [service]; exact nofun⟩
    all_goals rw [meter]; decide
  refine ⟨⟨⟨lists_of_empty slots (field State.openList) sealList, by rw [slots]; rfl, by rw [accounts]; exact List.Pairwise.nil,
    by rw [crq]; exact Nat.zero_le _, terms, fun h a ha => ?_, fun i v hv => ?_, fun i v hv => ?_, fun c f hf => ?_,
    by rw [crq]; exact nofun, fun a pos => ?_⟩, fun a isOpen => ?_⟩, fun waits => ?_, fun i e he => ?_⟩
  · rw [payer] at ha; cases ha
  · rw [slot] at hv; cases hv
  · rw [slot] at hv; cases hv
  · rw [pool, PerClass.get_all] at hf; cases hf
  · rw [account] at pos; cases pos
  · rw [account] at isOpen; cases isOpen
  · rcases waits with waits | ⟨a, pos⟩
    · exact absurd sealList waits
    · rw [account] at pos; cases pos
  · rw [openContext_of_empty slots] at he; cases he

theorem execFullReset_recorded (s : State) : RecordedBy s (execFullReset s) :=
  Recorded.next ⟨fun _ => contextsListed_of_none (lists_of_empty rfl rfl rfl) (openContext_of_empty rfl),
    fun _ _ => accounted_of_nothing rfl rfl rfl⟩

end Sys2Proof.Machine
end

section
/-! PROOFS. Every step keeps each account's books balanced, and things waiting only for a full queue. -/

namespace Sys2Proof.Machine

/-- Every command keeps the contexts listed and the books. -/
theorem exec_recorded (i : Instr) (s : State) : RecordedBy s (exec i s) := by
  cases i with
  | fullReset => exact execFullReset_recorded s
  | requestReceived p m => exact execRequestReceived_recorded p m s
  | invalidRequest p => exact takeRequest_recorded fun _ _ => trivial
  | messageSent p => exact execMessageSent_recorded p s
  | syncLost p => exact execSyncLost_recorded p s
  | syncRegained p => exact (modifyPort_stays p _ s).next
  | attach p => exact takeRequest_recorded answerAttach_recorded
  | detach p => exact takeRequest_recorded answerDetach_recorded
  | bearerAdd p => exact takeRequest_recorded answerBearerAdd_recorded
  | bearerDrop p => exact takeRequest_recorded answerBearerDrop_recorded
  | resume p => exact takeRequest_recorded answerResume_recorded
  | linkSetup p => exact takeRequest_recorded answerLinkSetup_recorded
  | linkTune p => exact takeRequest_recorded answerLinkTune_recorded
  | linkPowerOn p => exact takeRequest_recorded answerPowerOn_recorded
  | linkPowerOff p => exact takeRequest_recorded answerPowerOff_recorded
  | linkStatusUp p => exact takeRequest_recorded answerStatusUp_recorded
  | linkStatusDown p => exact takeRequest_recorded answerStatusDown_recorded
  | linkReport p => exact takeRequest_recorded answerLinkReport_recorded
  | position p => exact takeRequest_recorded answerPosition_recorded
  | zoneLoad p => exact takeRequest_recorded answerZoneLoad_recorded
  | swapRoute p => exact takeRequest_recorded fun f u => checkedSwap_recorded f fun r t => answerSwap_recorded r t u
  | swapRouteForce p => exact takeRequest_recorded fun f u => checkedSwap_recorded f fun r t => answerSwapForce_recorded r t u
  | storeSetup p => exact takeRequest_recorded answerStoreSetup_recorded
  | clockSet p => exact takeRequest_recorded fun v u => (Stays.same (s := u) (t := { u with clock := clockAt v u }) rfl rfl rfl).recorded
  | start p => exact takeRequest_recorded fun _ u => start_recorded p u
  | tariffLoad p => exact takeRequest_recorded answerTariffLoad_recorded
  | routePolicy p => exact takeRequest_recorded answerRoutePolicy_recorded
  | accountOpen p => exact takeRequest_recorded answerAccountOpen_recorded
  | accountClose p => exact takeRequest_recorded answerAccountClose_recorded
  | accountCredit p => exact takeRequest_recorded answerAccountCredit_recorded
  | accountSet p => exact takeRequest_recorded answerAccountSet_recorded
  | sessionBar p => exact takeRequest_recorded answerBar_recorded
  | sessionUnbar p => exact takeRequest_recorded answerUnbar_recorded
  | recordTake p => exact takeRequest_recorded answerRecordTake_recorded
  | meterSetup p => exact takeRequest_recorded answerMeterSetup_recorded
  | sessionRead p => exact takeRequest_recorded answerSessionRead_recorded
  | accountRead p => exact takeRequest_recorded answerAccountRead_recorded
  | routeRead p => exact takeRequest_recorded answerRouteRead_recorded
  | linkRead p => exact takeRequest_recorded answerLinkRead_recorded
  | zoneRead p => exact takeRequest_recorded answerZoneRead_recorded
  | setLevel p => exact takeRequest_recorded fun _ u => (modifyPort_stays p _ u).recorded
  | noticeSetup p => exact takeRequest_recorded (answerNoticeSetup_recorded p)
  | countersRead p => exact takeRequest_recorded (answerCountersRead_recorded p)
  | portReset p => exact takeRequest_recorded fun _ u => (resetPort_stays p u).recorded
  | carrierLoss k => exact execCarrierLoss_recorded k s
  | carrierRegain k => exact execCarrierRegain_recorded k s
  | warmUpDeadline k => exact execWarmUpDeadline_recorded k s
  | lingerDeadline k => exact execLingerDeadline_recorded k s
  | staleExpiry => exact execStaleExpiry_recorded s
  | drainDeadline r => exact execDrainDeadline_recorded r s
  | probationDeadline r => exact execProbationDeadline_recorded r s
  | settleDeadline r => exact execSettleDeadline_recorded r s
  | parkDeadline h => exact execParkDeadline_recorded h s
  | intervalDeadline i => exact execIntervalDeadline_recorded i s
  | pacingDeadline p => exact execPacingDeadline_recorded p s
  | voyageClockTick => exact execVoyageClockTick_recorded s
  | uplinkFrame tag source length => exact execUplinkFrame_recorded tag source length s
  | downlinkFrame k destination c length => exact execDownlinkFrame_recorded k destination c length s
  | transmitOpportunity k => exact execTransmitOpportunity_recorded k s
  | deliveryOpportunity => exact execDeliveryOpportunity_recorded s
  | noticeChoice p => exact (chooseNotice_ran p s).stays.next

theorem idle_stays (s : State) : Stays s (idle s) := by
  unfold idle
  split <;> exact .same rfl rfl rfl

theorem step_recorded {s t : State} (h : step s = .next t) : Recorded s t := by
  unfold step at h
  split at h
  · next c rest _ =>
    have taken : Stays s { s with pending := rest } := .same rfl rfl rfl
    obtain ⟨listed, books⟩ := exec_recorded c _ t h
    exact ⟨listed ∘ taken.contextsListed, fun g a => books (g.of_view rfl) (taken.books a)⟩
  · obtain rfl : idle s = t := Host.Outcome.next.inj h
    exact (idle_stays s).recorded

/-- Settles O60: every step records what it does to contexts and charges, which keeps the lists unconditionally, and of a lawful state
leaves one that is `Accounted`, which says the other three laws. -/
theorem everyStepKeepsTheBooksBalanced : Obligations.EveryStepKeepsTheBooksBalanced := by
  have accounted : KeptWithin Accounted := fun _ _ lawful h =>
    (step_recorded h).books (standing_of_lawful lawful) (accounted_of_lawful lawful)
  exact ⟨fun _ _ listed h => (step_recorded h).listed listed, fun s t l h => (accounted s t l h).meterLawful,
    fun s t l h => (accounted s t l h).full, fun s t l h => (accounted s t l h).balance⟩

end Sys2Proof.Machine
end
